-- ==== Sys2Proof/Word.lean ====
section
/-! DEFINITION. The byte and the 16-bit word of the serial links (10: R181, R183). -/

namespace Sys2Proof

/-- One byte of a frame, of the flash or of a status transfer. -/
abbrev Byte := BitVec 8

/-- The 16-bit register of the CRC (R183). -/
abbrev Word16 := BitVec 16

end Sys2Proof
end

