-- ==== Sys2Proof/Syntax.lean ====
section
/-! DEFINITION. The commands of the block: one constructor for each row of spec/opcode_table.json, in the
table's order. The table gives no operand; these are the ones each event needs (log entries 1, 4, 5, 26). -/

namespace Sys2Proof

/-- The three target ports (00: the part at a glance). -/
inductive Port where
  | s
  | d
  | f
deriving DecidableEq, Repr

/-- One event of the part. A request kind's constructor is the TAKING of the port's oldest waiting
request, which is of that kind (R185, R188); its fields are in the frame. -/
inductive Instr where
  /-- COLD_START (R199). -/
  | coldStart
  /-- COLD_START_LOAD_COMPLETE (R199); did the flash fail (R196). -/
  | coldStartLoadComplete (flashFailed : Bool)
  /-- SECONDS_COUNTER_TICK (R195). -/
  | secondsCounterTick
  /-- TRANSFER_START (R179, R180): byte 0 clocked, with the transfer code the master drives. -/
  | transferStart (p : Port) (code : Byte)
  /-- WRITE_TRANSFER (R184, R188): the end of a write transfer, with the bytes from byte 1 on. -/
  | writeTransfer (p : Port) (bytes : List Byte)
  /-- READ_TRANSFER (R186): the end of a read transfer, with the number of bytes clocked after byte 0. -/
  | readTransfer (p : Port) (clocked : Nat)
  /-- STATUS_TRANSFER (R179): the end of a transfer with any other code. -/
  | statusTransfer (p : Port)
  /-- PRESENCE_EXPIRY (R162). -/
  | presenceExpiry
  /-- UNKNOWN_KIND_REQUEST (R187). -/
  | unknownKindRequest (p : Port)
  /-- STATUS (R191). -/
  | status (p : Port)
  /-- PORT_RESET (R190), taken at the admission of its frame; the frame's TAG. -/
  | portReset (p : Port) (tag : Byte)
  /-- READ_TABLE (R13). -/
  | readTable (p : Port)
  /-- PULL_NOTICE (R173). -/
  | pullNotice (p : Port)
  /-- SET_NOTICE_MASK (R170). -/
  | setNoticeMask (p : Port)
  /-- PROPOSE_ISOLATION (R90, R93). -/
  | proposeIsolation (p : Port)
  /-- COMMIT_ORDER (R96). -/
  | commitOrder (p : Port)
  /-- CANCEL_ORDER (R113). -/
  | cancelOrder (p : Port)
  /-- BEGIN_RESTORE (R109). -/
  | beginRestore (p : Port)
  /-- VALVE_OPERATE (R76). -/
  | valveOperate (p : Port)
  /-- VALVE_ASSERT (R74). -/
  | valveAssert (p : Port)
  /-- VALVE_MARK (R75). -/
  | valveMark (p : Port)
  /-- SET_SOURCE (R83). -/
  | setSource (p : Port)
  /-- CREW_VALVE_REPORT (R73). -/
  | crewValveReport (p : Port)
  /-- LOG_CALL (R119). -/
  | logCall (p : Port)
  /-- NEXT_CALL (R127). -/
  | nextCall (p : Port)
  /-- ASSIGN_CALL (R128). -/
  | assignCall (p : Port)
  /-- CALL_PROGRESS (R129). -/
  | callProgress (p : Port)
  /-- PURGE_REPORT (R142). -/
  | purgeReport (p : Port)
  /-- RELIGHT_REPORT (R143). -/
  | relightReport (p : Port)
  /-- STORE_READ (R200). -/
  | storeRead (p : Port)
  /-- STORE_READ_COMPLETE (R200); did the flash fail. -/
  | storeReadComplete (flashFailed : Bool)
  /-- STORE_WRITE (R200). -/
  | storeWrite (p : Port)
  /-- STORE_WRITE_COMPLETE (R200); did the flash fail. -/
  | storeWriteComplete (flashFailed : Bool)
  /-- RELOAD (R201). -/
  | reload (p : Port)
  /-- RELOAD_COMPLETE (R201, R202); did the flash fail. -/
  | reloadComplete (flashFailed : Bool)
  /-- UNIT_REPORT (R23). -/
  | unitReport (p : Port)
  /-- WATCH_EXPIRY (R27) of a field unit. -/
  | watchExpiry (unit : Nat)
  /-- POSITION_REPORT (R69). -/
  | positionReport (p : Port)
  /-- TRAVEL_DEADLINE_EXPIRY (R68) of a valve. -/
  | travelDeadlineExpiry (valve : Nat)
  /-- PULL_COMMAND (R67). -/
  | pullCommand (p : Port)
  /-- ACTUAL_SWEEP_COMPLETE (R55). -/
  | actualSweepComplete
  /-- PLANNED_SWEEP_COMPLETE (R57). -/
  | plannedSweepComplete
  /-- DECAY_DEADLINE_EXPIRY (R105) of the order in a slot. -/
  | decayDeadlineExpiry (slot : Nat)
  /-- PROPOSAL_EXPIRY (R95) of the order in a slot. -/
  | proposalExpiry (slot : Nat)
  /-- CALL_DEADLINE_EXPIRY (R131) of the call in a slot. -/
  | callDeadlineExpiry (slot : Nat)
deriving DecidableEq, Repr

end Sys2Proof
end

