-- ==== Sys2Proof/Decode.lean ====
section
/-! DEFINITION. The commands that a word spells: no row of spec/opcode_table.json gives bits, so none does. -/

namespace Sys2Proof

/-- The command a word of nbits bits spells by the table's bits. Every row's "fields" is empty and no row
has "fixed" bits (98_reader.md), so no word spells a command. -/
def decodeTableWord (_nbits _w : Nat) : Option Instr := none

end Sys2Proof
end

