-- ==== Sys2Proof/Config.lean ====
section
/-! DEFINITION. What the manual leaves free: constants with no body, one for each open value. -/

namespace Sys2Proof

/-- What one byte of a sector reads after a failed write (R200): "its former value, its new value or 0xFF". -/
inductive ByteFate where
  | former
  | new
  | erased
deriving DecidableEq, Repr, Inhabited

/-- The fate of the byte at an address in the n-th draw of the run: R200 leaves it free (log entry 8). -/
opaque Config.failedWriteFate : Nat → Nat → ByteFate

/-- The byte at an address of a sector whose rewriting a cold start cuts short: the manual states none
(log entry 9). -/
opaque Config.interruptedByte : Nat → Nat → Byte

/-- The four bytes that carry, in a reply, a time beyond 4,294,967,295: R182 states none (log entry 10). -/
opaque Config.timeBeyondRange : Nat → BitVec 32

/-- The state byte of a refused commit's reply when no record carries the reference (log entry 11). -/
opaque Config.goneOrderState : Nat → Byte

end Sys2Proof
end

