-- ==== Sys2Proof/Machine/Types.lean ====
section
/-! DEFINITION. The names, records and enumerations of the operating picture and of the port blocks, as the
manual's record tables give them. -/

namespace Sys2Proof.Machine

/-! ### The network model (01) -/

/-- Pressure tier of a segment (R2). -/
inductive Tier where
  | ip | mp | lp
deriving DecidableEq, Repr

/-- Pressure summary of a segment (R3, R37); `noChannel` is the manual's NONE. -/
inductive Summary where
  | noChannel | unknown | normal | low | high
deriving DecidableEq, Repr

/-- Supply state of a segment (R3, R140). -/
inductive Supply where
  | live | off | purge | relight
deriving DecidableEq, Repr

/-- A segment record (R2, R3). -/
structure Segment where
  id        : Nat
  tier      : Tier
  customers : Nat
  priority  : Bool
  summary   : Summary
  falling   : Bool
  supply    : Supply
  relit     : Nat
  outage    : Option Nat
  holders   : List Nat
  unsafeA   : Nat
deriving DecidableEq, Repr

/-- One end of a valve, marked as a segment or a source (R4). -/
inductive End where
  | segment (id : Nat)
  | source (id : Nat)
deriving DecidableEq, Repr

/-- Kind of a valve (R4). -/
inductive ValveKind where
  | manual | remote
deriving DecidableEq, Repr

/-- Position of a valve (R6). -/
inductive Position where
  | open_ | closed | closing | opening | unknown | fault
deriving DecidableEq, Repr

/-- Action of a command or instruction (R64, R72). -/
inductive Action where
  | open_ | close
deriving DecidableEq, Repr

/-- A valve record (R4, R6) with its command state (R63). -/
structure Valve where
  id          : Nat
  endA        : End
  endB        : End
  kind        : ValveKind
  travel      : Option (Nat × Nat)
  normal      : Position
  position    : Position
  operable    : Bool
  holder      : Option Nat
  pendingCmd  : Option Action
  window      : Option (Nat × Nat)
  lastChange  : Nat
  prior       : Option Position
  outstanding : Option Action
deriving DecidableEq, Repr

/-- State of a source (R7). -/
inductive SourceState where
  | live | out
deriving DecidableEq, Repr

/-- Out cause of a source (R7). -/
inductive OutCause where
  | operator | trip
deriving DecidableEq, Repr

/-- A source record (R7). -/
structure Source where
  id    : Nat
  unit  : Option Nat
  state : SourceState
  cause : Option OutCause
deriving DecidableEq, Repr

/-- Watch state of a field unit (R9). -/
inductive WatchState where
  | silent | fresh | stale
deriving DecidableEq, Repr

/-- A field unit record (R9), with the time of its last report (R44). -/
structure FieldUnit where
  id           : Nat
  timeout      : Nat
  channelCount : Nat
  source       : Option Nat
  watch        : WatchState
  deadline     : Nat
  tripped      : Bool
  lastReport   : Option Nat
deriving DecidableEq, Repr

/-- State of a channel (R11). -/
inductive ChannelState where
  | unknown | normal | low | high | fault | stale
deriving DecidableEq, Repr

/-- A channel record (R10, R11). -/
structure Channel where
  unit       : Nat
  index      : Nat
  segment    : Nat
  zero       : Nat
  gain       : Nat
  shift      : Nat
  loEnter    : Nat
  loExit     : Nat
  hiExit     : Nat
  hiEnter    : Nat
  fallLimit  : Nat
  vent       : Nat
  raw        : Option Nat
  p          : Option Nat
  f          : Option Nat
  state      : ChannelState
  underRange : Bool
  overRange  : Bool
  falling    : Bool
  updated    : Option Nat
  lowPending : Bool
deriving DecidableEq, Repr

/-- The model in service: what the image's HDR gives, and when it was placed in service (R197, R6). -/
structure ModelInfo where
  name     : List Byte
  version  : Nat
  placedAt : Nat
deriving DecidableEq, Repr

/-- Model state as STATUS and RESTARTED carry it (R175, R191). -/
inductive ModelState where
  | inService | noModel
deriving DecidableEq, Repr

/-- The timing values in force (R20, R197). -/
structure Timing where
  mergeWindow      : Nat
  attendA          : Nat
  attendB          : Nat
  attendC          : Nat
  onSiteA          : Nat
  onSiteB          : Nat
  onSiteC          : Nat
  escalation       : Nat
  decayWindow      : Nat
  proposalLifetime : Nat
  presenceTimeout  : Nat
  e1               : Nat
  e2               : Nat
deriving DecidableEq, Repr

/-- An entry of the field command queue (R65). -/
structure QueueEntry where
  valve  : Nat
  action : Action
deriving DecidableEq, Repr

/-! ### Isolation orders (05) -/

/-- State of a step (R87). -/
inductive StepState where
  | waiting | issued | confirmed | failed | blocked | reopened
deriving DecidableEq, Repr

/-- A step of an order (R87). -/
structure Step where
  valve : Nat
  rank  : Nat
  state : StepState
deriving DecidableEq, Repr

/-- State of an order (R87). -/
inductive OrderState where
  | proposed | executing | isolated | letby | breached | restoring | done | cancelled | expired
deriving DecidableEq, Repr

/-- Verification result of an order (R87). -/
inductive Verification where
  | verified | unconfirmed
deriving DecidableEq, Repr

/-- An entry of the decay list: a channel and its met mark (R103). -/
structure DecayEntry where
  unit  : Nat
  index : Nat
  met   : Bool
deriving DecidableEq, Repr

/-- An order record with its three marks (R87), its armed expiry (R93) and the lowest rank issued for
reopening (R110, R111). -/
structure Order where
  slot           : Nat
  ref            : Nat
  origin         : Port
  linkedCall     : Option Nat
  target         : Nat
  region         : List Nat
  automatic      : Bool
  steps          : List Step
  expectedOff    : List Nat
  newlyAffected  : List Nat
  customerSum    : Nat
  priorityCut    : Bool
  override       : Bool
  state          : OrderState
  proposed       : Nat
  verification   : Option Verification
  decayDeadline  : Option Nat
  decayList      : List DecayEntry
  figuresPending : Bool
  commitInHand   : Bool
  cancelling     : Bool
  expiry         : Option Nat
  reopening      : Option Nat
deriving DecidableEq, Repr

/-! ### The sweep engine (03) -/

/-- The inputs of a sweep, fixed at its start (R48, R53): the valves that pass and the sources that are LIVE. -/
structure SweepInputs where
  passing : List Nat
  live    : List Nat
deriving DecidableEq, Repr

/-- The operation of a planned request (R51). A COMMIT keeps the region, steps and override flag formed at
its taking (R96). -/
inductive PlannedOp where
  | propose
  | commit (override : Bool) (region : List Nat) (steps : List Step)
deriving DecidableEq, Repr

/-- A planned request (R51). -/
structure PlannedRequest where
  port : Port
  op   : PlannedOp
  slot : Nat
  ref  : Nat
  plan : List Nat
deriving DecidableEq, Repr

/-- Engine state with the sweep in flight and the request in service (R49, R53). -/
inductive Flight where
  | idle
  | actual (inputs : SweepInputs)
  | planned (request : PlannedRequest) (inputs : SweepInputs)
deriving DecidableEq, Repr

/-- The sweep engine's state (03: The engine's state). -/
structure SweepEngine where
  flight        : Flight
  actualPending : Bool
  requests      : List PlannedRequest
  published     : List Nat
  number        : Nat
deriving DecidableEq, Repr

/-! ### Leak calls (06) -/

/-- Class of a call (R116). -/
inductive CallClass where
  | a | b | c
deriving DecidableEq, Repr

/-- State of a call (R116). -/
inductive CallState where
  | new | assigned | onSite | madeSafe | closed
deriving DecidableEq, Repr

/-- A call record (R116). -/
structure Call where
  slot         : Nat
  ref          : Nat
  segment      : Nat
  reported     : CallClass
  effective    : CallClass
  corroborated : Bool
  first        : Nat
  last         : Nat
  merged       : Nat
  state        : CallState
  crew         : Option Nat
  level        : Nat
  deadline     : Option Nat
  links        : List Nat
deriving DecidableEq, Repr

/-! ### Outages (07) -/

/-- Cause of an outage (R144). -/
inductive Cause where
  | order (ref : Nat)
  | unplanned
  | mixed
deriving DecidableEq, Repr

/-- State of an outage (R144). -/
inductive OutageState where
  | active | restoring | closed
deriving DecidableEq, Repr

/-- An outage record (R144). -/
structure Outage where
  id         : Nat
  ref        : Nat
  cause      : Cause
  sourcesOut : List Nat
  opened     : Nat
  members    : List Nat
  off        : Nat
  awaiting   : Nat
  state      : OutageState
deriving DecidableEq, Repr

/-! ### Authority (08) -/

/-- The request kinds (R192). -/
inductive RequestKind where
  | status | portReset | readTable | pullNotice | setNoticeMask
  | proposeIsolation | commitOrder | cancelOrder | beginRestore
  | valveOperate | valveAssert | valveMark | setSource | crewValveReport
  | logCall | nextCall | assignCall | callProgress | purgeReport | relightReport
  | storeRead | storeWrite | reload | unitReport | positionReport | pullCommand
deriving DecidableEq, Repr

/-- A grant entry (R157). -/
structure Grant where
  kind      : RequestKind
  s         : Bool
  d         : Bool
  f         : Bool
  grantable : Bool
deriving DecidableEq, Repr

/-- Supervisory presence (R160) with the two times its notices carry (R162). -/
structure Presence where
  present       : Bool
  deadline      : Option Nat
  lastAdmission : Option Nat
  absentSince   : Option Nat
deriving DecidableEq, Repr

/-! ### Notices (09) -/

/-- Notice kinds (R169, R193). -/
inductive NoticeKind where
  | pressureLow | pressureHigh | pressureNormal | rapidFall | channelFault
  | unitStale | unitFresh | sourceState
  | valveFault | valveMoved | crewInstruction
  | orderState | letby | breach
  | callNew | callRaised | callOverdue
  | outageOpened | outageChanged | outageClosed
  | supervisoryAbsent | supervisoryPresent | restarted | resync
deriving DecidableEq, Repr

/-- Cause of a valve fault (R70). -/
inductive FaultCause where
  | stuck | implausible
deriving DecidableEq, Repr

/-- Detail of CREW_INSTRUCTION (R85). -/
inductive Instruction where
  | close | open_ | hold
deriving DecidableEq, Repr

/-- Detail of a notice, as its raising rule gives it (R44, R85, R114, R138, R153, R162, R175, R176). -/
inductive Detail where
  | pressure (pa : Nat)
  | time (t : Nat)
  | watchLeft (w : WatchState)
  | faultCause (why : FaultCause)
  | position (q : Position)
  | instruction (i : Instruction)
  | sourceState (st : SourceState) (cause : Option OutCause)
  | orderState (st : OrderState) (result : Option Verification)
  | chainComplete
  | channel (ix : Nat)
  | breachValve (v : Nat)
  | breachSegment (sg : Nat)
  | callClass (cls : CallClass)
  | level (n : Nat)
  | outageOpened (because : Cause) (off : Nat)
  | outageChanged (st : OutageState) (off awaiting : Nat)
  | members (n : Nat)
  | modelState (m : ModelState)
  | dropped (n : Nat)
deriving DecidableEq, Repr

/-- What a block hands the router (R168). -/
structure Raise where
  kind    : NoticeKind
  subject : Nat
  detail  : Option Detail
deriving DecidableEq, Repr

/-- An entry of a notice queue (R168). -/
structure NoticeEntry where
  kind    : NoticeKind
  subject : Nat
  first   : Nat
  count   : Nat
  detail  : Option Detail
deriving DecidableEq, Repr

/-- The notice state of one port (R170, R171, R172). -/
structure NoticePort where
  queue    : List NoticeEntry
  mask     : List NoticeKind
  overflow : Bool
deriving DecidableEq, Repr

/-! ### Ports and store (10, 11) -/

/-- An admitted frame: KIND, TAG and payload; LEN is the payload's length (R181). -/
structure Request where
  kind    : Byte
  tag     : Byte
  payload : List Byte
deriving DecidableEq, Repr

/-- A request in service, with the mark by which PORT_RESET discards its reply (R185, R190). -/
structure InService where
  kind    : Byte
  tag     : Byte
  discard : Bool
deriving DecidableEq, Repr

/-- A transfer in progress: its code, the status byte driven and the reply chosen (R179, R180, R186). -/
structure Transfer where
  code   : Byte
  status : Byte
  chosen : Option (List Byte)
deriving DecidableEq, Repr

/-- A port block (10: the port state table). -/
structure PortBlock where
  inbound   : List Request
  inService : Option InService
  replies   : List (List Byte)
  discarded : Bool
  transfer  : Option Transfer
deriving DecidableEq, Repr

/-- The operation that keeps the store BUSY (R196). -/
inductive StoreOp where
  | coldStartLoad
  | read (addr len : Nat)
  | write (addr : Nat) (data : List Byte)
  | reload
deriving DecidableEq, Repr

/-- Result codes (R193). -/
inductive Result where
  | done | doneClamped | doneMerged | unknownKind | notPermitted | noModel | badLength | badValue
  | noSuch | wrongState | tableFull | valveHeld | priorityCut | overLimit | cannotIsolate | callOpen
  | storeFault | imageBad
deriving DecidableEq, Repr

end Sys2Proof.Machine
end

