-- ==== Sys2Proof/Machine/Operands.lean ====
section
/-! DEFINITION. Operand forms: the fields of payloads, their widths and codings (10: R182, R192, R193). -/

namespace Sys2Proof.Machine

/-! ### Reading fields of a payload, most significant byte first (R181) -/

def u8 (pl : List Byte) (i : Nat) : Nat := (pl.getD i 0).toNat

def u16 (pl : List Byte) (i : Nat) : Nat := u8 pl i * 256 + u8 pl (i + 1)

def u24 (pl : List Byte) (i : Nat) : Nat := u16 pl i * 256 + u8 pl (i + 2)

def u32 (pl : List Byte) (i : Nat) : Nat := u16 pl i * 65536 + u16 pl (i + 2)

/-! ### Writing fields -/

def enc8 (n : Nat) : List Byte := [BitVec.ofNat 8 n]

def enc16 (n : Nat) : List Byte := [BitVec.ofNat 8 (n / 256), BitVec.ofNat 8 n]

def enc24 (n : Nat) : List Byte := BitVec.ofNat 8 (n / 65536) :: enc16 n

def enc32 (n : Nat) : List Byte := enc16 (n / 65536) ++ enc16 n

/-- A time or deadline, 4 bytes (R182). A deadline beyond the counter's last value has no 4-byte value:
what is carried then is free (log entry 10). -/
def encTime (n : Nat) : List Byte :=
  if n < 4294967296 then enc32 n else enc32 (Config.timeBeyondRange n).toNat

def encFlag (b : Bool) : List Byte := [if b then 1 else 0]

/-- An optional field: a presence byte, then the value, all 0 when absent (R182). -/
def encOpt {α : Type} (width : Nat) (enc : α → List Byte) : Option α → List Byte
  | some x => 1 :: enc x
  | none => 0 :: List.replicate width 0

/-- A set of segment ids: id k is bit 7 − (k mod 8) of byte floor(k / 8) (R182). -/
def encSet (ids : List Nat) : List Byte :=
  (List.range 32).map (fun b =>
    (List.range 8).foldl
      (fun acc i => if ids.contains (8 * b + i) then acc ||| (0x80#8 >>> i) else acc) 0#8)

/-! ### Enumerated values: numbered from 1 in the order in which the field lists them (R182) -/

def Tier.code : Tier → Nat
  | .ip => 1 | .mp => 2 | .lp => 3

def Tier.ofCode : Nat → Option Tier
  | 1 => some .ip | 2 => some .mp | 3 => some .lp | _ => none

def Summary.code : Summary → Nat
  | .noChannel => 1 | .unknown => 2 | .normal => 3 | .low => 4 | .high => 5

def Supply.code : Supply → Nat
  | .live => 1 | .off => 2 | .purge => 3 | .relight => 4

def ValveKind.code : ValveKind → Nat
  | .manual => 1 | .remote => 2

def ValveKind.ofCode : Nat → Option ValveKind
  | 1 => some .manual | 2 => some .remote | _ => none

/-- Position codes of the valve record; MID is 7 (R182). -/
def Position.code : Position → Nat
  | .open_ => 1 | .closed => 2 | .closing => 3 | .opening => 4 | .unknown => 5 | .fault => 6

def Action.code : Action → Nat
  | .open_ => 1 | .close => 2

def Action.ofCode : Nat → Option Action
  | 1 => some .open_ | 2 => some .close | _ => none

def SourceState.code : SourceState → Nat
  | .live => 1 | .out => 2

def SourceState.ofCode : Nat → Option SourceState
  | 1 => some .live | 2 => some .out | _ => none

def OutCause.code : OutCause → Nat
  | .operator => 1 | .trip => 2

def WatchState.code : WatchState → Nat
  | .silent => 1 | .fresh => 2 | .stale => 3

def ChannelState.code : ChannelState → Nat
  | .unknown => 1 | .normal => 2 | .low => 3 | .high => 4 | .fault => 5 | .stale => 6

def ModelState.code : ModelState → Nat
  | .inService => 1 | .noModel => 2

def StepState.code : StepState → Nat
  | .waiting => 1 | .issued => 2 | .confirmed => 3 | .failed => 4 | .blocked => 5 | .reopened => 6

def OrderState.code : OrderState → Nat
  | .proposed => 1 | .executing => 2 | .isolated => 3 | .letby => 4 | .breached => 5
  | .restoring => 6 | .done => 7 | .cancelled => 8 | .expired => 9

def Verification.code : Verification → Nat
  | .verified => 1 | .unconfirmed => 2

def CallClass.code : CallClass → Nat
  | .a => 1 | .b => 2 | .c => 3

def CallClass.ofCode : Nat → Option CallClass
  | 1 => some .a | 2 => some .b | 3 => some .c | _ => none

def CallState.code : CallState → Nat
  | .new => 1 | .assigned => 2 | .onSite => 3 | .madeSafe => 4 | .closed => 5

def Cause.code : Cause → Nat
  | .order _ => 1 | .unplanned => 2 | .mixed => 3

def OutageState.code : OutageState → Nat
  | .active => 1 | .restoring => 2 | .closed => 3

def FaultCause.code : FaultCause → Nat
  | .stuck => 1 | .implausible => 2

def Instruction.code : Instruction → Nat
  | .close => 1 | .open_ => 2 | .hold => 3

/-- Ports as enumerated values and as notice subjects: S, D, F (log entry 15). -/
def portCode : Port → Nat
  | .s => 1 | .d => 2 | .f => 3

/-- Request kind codes (R192). -/
def RequestKind.code : RequestKind → Nat
  | .status => 0x01 | .portReset => 0x02
  | .readTable => 0x10 | .pullNotice => 0x11 | .setNoticeMask => 0x12
  | .proposeIsolation => 0x20 | .commitOrder => 0x21 | .cancelOrder => 0x22 | .beginRestore => 0x23
  | .valveOperate => 0x30 | .valveAssert => 0x31 | .valveMark => 0x32 | .setSource => 0x33
  | .crewValveReport => 0x34
  | .logCall => 0x40 | .nextCall => 0x41 | .assignCall => 0x42 | .callProgress => 0x43
  | .purgeReport => 0x50 | .relightReport => 0x51
  | .storeRead => 0x60 | .storeWrite => 0x61 | .reload => 0x62
  | .unitReport => 0x70 | .positionReport => 0x71 | .pullCommand => 0x72

/-- The request kind of a code; none for a code that is no request kind's (R192). -/
def RequestKind.ofCode : Nat → Option RequestKind
  | 0x01 => some .status | 0x02 => some .portReset
  | 0x10 => some .readTable | 0x11 => some .pullNotice | 0x12 => some .setNoticeMask
  | 0x20 => some .proposeIsolation | 0x21 => some .commitOrder | 0x22 => some .cancelOrder
  | 0x23 => some .beginRestore
  | 0x30 => some .valveOperate | 0x31 => some .valveAssert | 0x32 => some .valveMark
  | 0x33 => some .setSource | 0x34 => some .crewValveReport
  | 0x40 => some .logCall | 0x41 => some .nextCall | 0x42 => some .assignCall
  | 0x43 => some .callProgress
  | 0x50 => some .purgeReport | 0x51 => some .relightReport
  | 0x60 => some .storeRead | 0x61 => some .storeWrite | 0x62 => some .reload
  | 0x70 => some .unitReport | 0x71 => some .positionReport | 0x72 => some .pullCommand
  | _ => none

/-- Result codes (R193). -/
def Result.code : Result → Nat
  | .done => 0x00 | .doneClamped => 0x01 | .doneMerged => 0x02 | .unknownKind => 0x03
  | .notPermitted => 0x04 | .noModel => 0x05 | .badLength => 0x06 | .badValue => 0x07
  | .noSuch => 0x08 | .wrongState => 0x09 | .tableFull => 0x0A | .valveHeld => 0x0B
  | .priorityCut => 0x0C | .overLimit => 0x0D | .cannotIsolate => 0x0E | .callOpen => 0x0F
  | .storeFault => 0x10 | .imageBad => 0x11

/-- Notice kind codes (R193). -/
def NoticeKind.code : NoticeKind → Nat
  | .pressureLow => 1 | .pressureHigh => 2 | .pressureNormal => 3 | .rapidFall => 4
  | .channelFault => 5 | .unitStale => 6 | .unitFresh => 7 | .sourceState => 8
  | .valveFault => 9 | .valveMoved => 10 | .crewInstruction => 11
  | .orderState => 12 | .letby => 13 | .breach => 14
  | .callNew => 15 | .callRaised => 16 | .callOverdue => 17
  | .outageOpened => 18 | .outageChanged => 19 | .outageClosed => 20
  | .supervisoryAbsent => 21 | .supervisoryPresent => 22 | .restarted => 23 | .resync => 24

/-- The notice kind of a code (R193). -/
def NoticeKind.ofCode : Nat → Option NoticeKind
  | 1 => some .pressureLow | 2 => some .pressureHigh | 3 => some .pressureNormal
  | 4 => some .rapidFall | 5 => some .channelFault | 6 => some .unitStale | 7 => some .unitFresh
  | 8 => some .sourceState | 9 => some .valveFault | 10 => some .valveMoved
  | 11 => some .crewInstruction | 12 => some .orderState | 13 => some .letby | 14 => some .breach
  | 15 => some .callNew | 16 => some .callRaised | 17 => some .callOverdue
  | 18 => some .outageOpened | 19 => some .outageChanged | 20 => some .outageClosed
  | 21 => some .supervisoryAbsent | 22 => some .supervisoryPresent | 23 => some .restarted
  | 24 => some .resync | _ => none

/-- A flag byte of a request: any value but 0 and 1 is not accepted (R182). -/
def flagOf : Nat → Option Bool
  | 0 => some false | 1 => some true | _ => none

/-! ### Compound fields -/

/-- An end of a valve, marked as which: the mark, then the id (R17, R197; log entry 14). -/
def encEnd : End → List Byte
  | .segment i => enc8 1 ++ enc8 i
  | .source i => enc8 2 ++ enc8 i

/-- A step: valve, rank, step state (R14). -/
def encStep (t : Step) : List Byte := enc16 t.valve ++ enc8 t.rank ++ enc8 t.state.code

/-- A cause: its code, then the order reference as an optional field (log entry 14). -/
def encCause (c : Cause) : List Byte :=
  enc8 c.code ++ encOpt 2 enc16 (match c with | .order r => some r | _ => none)

/-- The parts of a notice's detail, in the order in which the raising rule lists them (R193, R44, R85,
R114, R138, R153, R162, R175, R176; log entries 14, 15). The watch state in UNIT_FRESH has the code of the unit's watch
state, so STALE is 3, where R44 lists SILENT or STALE (DESIGN CHOICE, log entry 39). -/
def Detail.parts : Detail → List Byte
  | .pressure pa => enc24 pa
  | .time t => encTime t
  | .watchLeft w => enc8 w.code
  | .faultCause c => enc8 c.code
  | .position q => enc8 q.code
  | .instruction i => enc8 i.code
  | .sourceState st cause => enc8 st.code ++ encOpt 1 (fun c => enc8 (OutCause.code c)) cause
  | .orderState st result => enc8 st.code ++ encOpt 1 (fun r => enc8 (Verification.code r)) result
  | .chainComplete => enc8 10
  | .channel ix => enc8 ix
  | .breachValve v => enc8 1 ++ enc16 v
  | .breachSegment sg => enc8 2 ++ enc8 sg
  | .callClass c => enc8 c.code
  | .level n => enc8 n
  | .outageOpened cause off => encCause cause ++ enc24 off
  | .outageChanged st off awaiting => enc8 st.code ++ enc24 off ++ enc24 awaiting
  | .members n => enc16 n
  | .modelState m => enc8 m.code
  | .dropped n => enc8 n

/-- A detail in its 8 value bytes; the bytes after the parts read 0 (R193). -/
def encDetail (d : Detail) : List Byte := (d.parts ++ List.replicate 8 0).take 8

/-- A notice entry in its 17 bytes (R193). -/
def encNotice (e : NoticeEntry) : List Byte :=
  enc8 e.kind.code ++ enc16 e.subject ++ encTime e.first ++ enc8 e.count ++ encOpt 8 encDetail e.detail

/-! ### Payload lengths (R192) -/

/-- Does LEN fit the kind's layout (R187, check 4; R192)? A kind whose layout carries a count must have the
length that the count gives. -/
def lengthFits (k : RequestKind) (pl : List Byte) : Bool :=
  match k with
  | .status | .pullNotice | .nextCall | .reload | .pullCommand => pl.length == 0
  | .portReset => true
  | .readTable => pl.length == 7
  | .setNoticeMask => pl.length == 1 + u8 pl 0 && pl.length != 0
  | .proposeIsolation => decide (5 ≤ pl.length) && pl.length == 5 + 3 * u8 pl 4
  | .commitOrder | .valveOperate | .valveAssert | .valveMark | .crewValveReport | .callProgress
  | .relightReport | .storeRead | .positionReport => pl.length == 3
  | .cancelOrder | .beginRestore | .setSource | .logCall => pl.length == 2
  | .assignCall => pl.length == 4
  | .purgeReport => pl.length == 1
  | .storeWrite => decide (3 ≤ pl.length) && decide (pl.length ≤ 130)
  | .unitReport => decide (4 ≤ pl.length) && pl.length == 4 + 2 * u8 pl 3

end Sys2Proof.Machine
end

