-- ==== Sys2Proof/Machine/Frames.lean ====
section
/-! DEFINITION. Frames and their CRC-16 (10: R181, R183, R184). -/

namespace Sys2Proof.Machine

/-- One shift of the CRC register: left by one bit, and exclusive-or with 0x1021 if the bit shifted out was 1
(R183). -/
def crcShift (r : Word16) : Word16 :=
  if r.getLsbD 15 then (r <<< 1) ^^^ 0x1021#16 else r <<< 1

/-- Take one byte: exclusive-or into the upper eight bits, then eight shifts (R183). -/
def crcByte (r : Word16) (b : Byte) : Word16 :=
  crcShift (crcShift (crcShift (crcShift (crcShift (crcShift (crcShift (crcShift
    (r ^^^ (b.zeroExtend 16 <<< 8)))))))))

/-- The CRC-16 register after a span of bytes, from 0xFFFF (R183). -/
def crc16 (bytes : List Byte) : Word16 := bytes.foldl crcByte 0xFFFF#16

/-- A span followed by its CRC, high byte first (R183). -/
def withCrc (bytes : List Byte) : List Byte := bytes ++ enc16 (crc16 bytes).toNat

/-- A request frame with its CRC (R181): what a master sends. -/
def requestFrame (kind tag : Byte) (payload : List Byte) : List Byte :=
  withCrc (0xA5#8 :: kind :: tag :: BitVec.ofNat 8 payload.length :: payload)

/-- A reply frame with its CRC (R181). -/
def replyFrame (kind tag : Byte) (result : Result) (payload : List Byte) : List Byte :=
  withCrc (0x5A#8 :: kind :: tag :: BitVec.ofNat 8 result.code :: BitVec.ofNat 8 payload.length
    :: payload)

/-- Case 1 of R184: fewer than 6 bytes, or the first is not 0xA5, or LEN exceeds 240, or the number of bytes
is not LEN + 6. -/
def malformed (bytes : List Byte) : Bool :=
  decide (bytes.length < 6) || u8 bytes 0 != 0xA5 || decide (240 < u8 bytes 3) ||
    bytes.length != u8 bytes 3 + 6

/-- The request a well-formed frame carries (R181): KIND, TAG and the LEN bytes of payload. -/
def frameRequest (bytes : List Byte) : Request :=
  { kind := bytes.getD 1 0, tag := bytes.getD 2 0, payload := (bytes.drop 4).take (u8 bytes 3) }

/-- What a frame is, by cases 1 and 2 of R184: discarded (none), or the request it carries. -/
def readFrame (bytes : List Byte) : Option Request :=
  if malformed bytes then none
  else if crc16 bytes ≠ 0#16 then none
  else some (frameRequest bytes)

end Sys2Proof.Machine
end

