-- ==== Sys2Proof/Machine/Grants.lean ====
section
/-! DEFINITION. The default grant table (08: R157) and the default timing values (R118, R93, R103, R160, R165). -/

namespace Sys2Proof.Machine

/-- The grant entry of each kind at cold start (R157), in code order. -/
def defaultGrants : List Grant :=
  [⟨.status, true, true, true, false⟩, ⟨.portReset, true, true, true, false⟩,
   ⟨.readTable, true, true, false, true⟩, ⟨.pullNotice, true, true, false, true⟩,
   ⟨.setNoticeMask, true, true, false, false⟩,
   ⟨.proposeIsolation, true, true, false, true⟩, ⟨.commitOrder, true, true, false, false⟩,
   ⟨.cancelOrder, true, true, false, true⟩, ⟨.beginRestore, true, false, false, false⟩] ++
  [⟨.valveOperate, true, false, false, false⟩, ⟨.valveAssert, true, false, false, true⟩,
   ⟨.valveMark, true, false, false, false⟩, ⟨.setSource, true, false, false, true⟩,
   ⟨.crewValveReport, false, true, false, true⟩,
   ⟨.logCall, false, true, false, false⟩, ⟨.nextCall, false, true, false, false⟩,
   ⟨.assignCall, false, true, false, false⟩, ⟨.callProgress, false, true, false, false⟩] ++
  [⟨.purgeReport, false, true, false, true⟩, ⟨.relightReport, false, true, false, true⟩,
   ⟨.storeRead, true, false, false, false⟩, ⟨.storeWrite, true, false, false, false⟩,
   ⟨.reload, true, false, false, false⟩,
   ⟨.unitReport, false, false, true, false⟩, ⟨.positionReport, false, false, true, false⟩,
   ⟨.pullCommand, false, false, true, false⟩]

/-- The timing values that stand when the image gives none, and in NO_MODEL (R118, R93, R103, R160, R165). -/
def defaultTiming : Timing :=
  { mergeWindow := 1800, attendA := 120, attendB := 600, attendC := 3600, onSiteA := 3600,
    onSiteB := 7200, onSiteC := 86400, escalation := 300, decayWindow := 600,
    proposalLifetime := 900, presenceTimeout := 30, e1 := 200, e2 := 2000 }

end Sys2Proof.Machine
end

