-- ==== Sys2Proof/Machine/State.lean ====
section
/-! DEFINITION. The state of the part: the operating picture, the authority block, the notice router, the port
blocks, the store, and the queue of commands that wait. Plain data. -/

namespace Sys2Proof.Machine

/-- The operating picture: what the pressure monitor, the valve block, the sweep engine, the order engine,
the call register and outage accounting hold (00: The part at a glance), with the seconds counter (R195). -/
structure Picture where
  /-- The seconds counter (R195). -/
  now            : Nat
  /-- The model in service; none in NO_MODEL (R199). -/
  model          : Option ModelInfo
  timing         : Timing
  segments       : List Segment
  valves         : List Valve
  sources        : List Source
  units          : List FieldUnit
  channels       : List Channel
  sweep          : SweepEngine
  /-- The field command queue (R65). -/
  cmdQueue       : List QueueEntry
  orders         : List Order
  nextOrderRef   : Nat
  /-- Order slots in the order in which their records became terminal (R88, R115). -/
  terminalSlots  : List Nat
  calls          : List Call
  nextCallRef    : Nat
  /-- Call slots in the order of closing (R117). -/
  closedCalls    : List Nat
  outages        : List Outage
  nextOutageRef  : Nat
  /-- Outage ids in the order of opening (R144, R150). -/
  openedOutages  : List Nat
  /-- Outage ids in the order of closing (R144, R145). -/
  closedOutages  : List Nat
  /-- Network totals (R144, R152). -/
  customersOff   : Nat
  awaitingRelight : Nat
deriving DecidableEq, Repr

/-- The whole state of the part, and the queue of the commands that wait. -/
structure State extends Picture where
  grants    : List Grant
  presence  : Presence
  noticesS  : NoticePort
  noticesD  : NoticePort
  portS     : PortBlock
  portD     : PortBlock
  portF     : PortBlock
  /-- FLOW output of Port F (R189). -/
  flow      : Bool
  /-- ATTN outputs (R174, R65). -/
  attnS     : Bool
  attnD     : Bool
  attnF     : Bool
  /-- IDLE (none) or the operation that keeps the store BUSY (R196). -/
  store     : Option StoreOp
  /-- The external flash in canonical form: strictly rising addresses, no byte 0xFF (R196, log entry 7). -/
  flash     : List Host.Cell
  /-- The model's own counter for free values (log entry 27). -/
  freeDraws : Nat
  /-- The commands that wait, first in, first out (log entry 1). -/
  pending   : List Instr
deriving DecidableEq, Repr

/-- Why a step can stop with a fault. The manual gives the part no stop: a refused request is a reply, an
unplaceable report a discard (R181, R23). So there is no constructor, and no step of the model faults. -/
inductive Fault where
deriving DecidableEq, Repr

/-- Why a step can be refused. -/
inductive Refusal where
  /-- Raised by a dispatch arm whose command has no meaning yet; safe, since the model stops. No arm is
  left so. -/
  | notModelled (mnemonic : String)
deriving DecidableEq, Repr

/-- A port block after cold start (R194). A transfer in progress at a cold start is dropped, so that its end has no
effect (DESIGN CHOICE, log entry 37). -/
def PortBlock.reset : PortBlock :=
  { inbound := [], inService := none, replies := [], discarded := false, transfer := none }

/-- The notice state of a port after cold start: RESTARTED alone, its detail not yet written (R175, R199). -/
def NoticePort.reset (port : Nat) : NoticePort :=
  { queue := [⟨.restarted, port, 0, 1, none⟩], mask := [], overflow := false }

/-- The sweep engine in NO_MODEL (R49). -/
def SweepEngine.noModel : SweepEngine :=
  { flight := .idle, actualPending := false, requests := [], published := [], number := 0 }

/-- The operating picture after the COLD_START event (R199, R87, R116, R144). -/
def Picture.reset : Picture :=
  { now := 0, model := none, timing := defaultTiming, segments := [], valves := [], sources := [],
    units := [], channels := [], sweep := SweepEngine.noModel, cmdQueue := [],
    orders := [], nextOrderRef := 1, terminalSlots := [],
    calls := [], nextCallRef := 1, closedCalls := [],
    outages := [], nextOutageRef := 1, openedOutages := [], closedOutages := [],
    customersOff := 0, awaitingRelight := 0 }

/-- The part right after reset: the COLD_START event of R199 has been taken and the cold-start load runs.
The flash reads as erased (log entry 7). -/
def State.reset : State :=
  { Picture.reset with
    grants := defaultGrants,
    presence := { present := false, deadline := none, lastAdmission := none, absentSince := none },
    noticesS := NoticePort.reset 1, noticesD := NoticePort.reset 2,
    portS := PortBlock.reset, portD := PortBlock.reset, portF := PortBlock.reset,
    flow := true, attnS := true, attnD := true, attnF := false,
    store := some .coldStartLoad, flash := [], freeDraws := 0, pending := [] }

end Sys2Proof.Machine
end

