-- ==== Sys2Proof/Machine/Ops.lean ====
section
/-! DEFINITION. The named operations over the tables, the flash and the notices of an event. -/

namespace Sys2Proof.Machine

/-! ### Tables in ascending key order -/

/-- Put a record into a table kept in strictly ascending key order, in place of the record of the same key. -/
def putBy {α : Type} (key : α → Nat) (x : α) : List α → List α
  | [] => [x]
  | y :: ys =>
    if key x < key y then x :: y :: ys
    else if key x = key y then x :: ys
    else y :: putBy key x ys

/-- Insert a number into an ascending list without duplicates. -/
def putNat (n : Nat) (l : List Nat) : List Nat := putBy (fun x => x) n l

/-- The lowest number below `bound` that no record has as its key, if there is one. -/
def lowestFree (keys : List Nat) (bound : Nat) : Option Nat :=
  (List.range bound).find? (fun k => !keys.contains k)

/-- The next 16-bit reference: 65535 is followed by 1, whether or not a record still carries it (R88, R117, R145; log
entry 36). -/
def nextRef (r : Nat) : Nat := if r = 65535 then 1 else r + 1

/-! ### The flash: a 64 KiB memory in canonical form (R196) -/

/-- An erased byte (R196), which is also what an unlisted address reads as (log entry 7). -/
def erased : Byte := 0xFF

/-- The byte at an address. -/
def flashRead (m : List Host.Cell) (a : Nat) : Byte :=
  match m.find? (fun c => c.1 == a) with
  | some c => c.2
  | none => erased

/-- Write one byte, keeping the canonical form. -/
def flashWrite (a : Nat) (b : Byte) : List Host.Cell → List Host.Cell
  | [] => if b = erased then [] else [(a, b)]
  | (k, c) :: rest =>
    if a < k then (if b = erased then (k, c) :: rest else (a, b) :: (k, c) :: rest)
    else if a = k then (if b = erased then rest else (a, b) :: rest)
    else (k, c) :: flashWrite a b rest

/-- Write consecutive bytes from an address on. -/
def flashWriteSpan (m : List Host.Cell) (a : Nat) : List Byte → List Host.Cell
  | [] => m
  | b :: bs => flashWriteSpan (flashWrite a b m) (a + 1) bs

/-- The bytes of a span. -/
def flashSpan (m : List Host.Cell) (a : Nat) : Nat → List Byte
  | 0 => []
  | n + 1 => flashRead m a :: flashSpan m (a + 1) n

/-- Canonical form of the flash: addresses in 0x0000 to 0xFFFF strictly rising, no byte 0xFF listed. -/
def flashWf : List Host.Cell → Bool
  | [] => true
  | (a, b) :: rest => a < 65536 && b != erased && rest.all (fun c => a < c.1) && flashWf rest

/-- First address of the sector of 4,096 bytes that holds an address (R196). -/
def sectorBase (a : Nat) : Nat := a / 4096 * 4096

/-! ### Records of the picture -/

def Picture.segment? (pic : Picture) (id : Nat) : Option Segment :=
  pic.segments.find? (fun x => x.id == id)

def Picture.valve? (pic : Picture) (id : Nat) : Option Valve :=
  pic.valves.find? (fun x => x.id == id)

def Picture.source? (pic : Picture) (id : Nat) : Option Source :=
  pic.sources.find? (fun x => x.id == id)

def Picture.unit? (pic : Picture) (id : Nat) : Option FieldUnit :=
  pic.units.find? (fun x => x.id == id)

def Picture.channel? (pic : Picture) (unit index : Nat) : Option Channel :=
  pic.channels.find? (fun x => x.unit == unit && x.index == index)

/-- The order in a slot; none in a slot never used (R87). -/
def Picture.order? (pic : Picture) (slot : Nat) : Option Order :=
  pic.orders.find? (fun x => x.slot == slot)

/-- The order that carries a reference: of several, the one in the lowest slot (log entry 36). -/
def Picture.orderByRef? (pic : Picture) (ref : Nat) : Option Order :=
  pic.orders.find? (fun x => x.ref == ref)

def Picture.call? (pic : Picture) (slot : Nat) : Option Call :=
  pic.calls.find? (fun x => x.slot == slot)

/-- The call that carries a reference (R117, R136): of several, the one in the lowest slot (log entry 36). -/
def Picture.callByRef? (pic : Picture) (ref : Nat) : Option Call :=
  pic.calls.find? (fun x => x.ref == ref)

def Picture.outage? (pic : Picture) (id : Nat) : Option Outage :=
  pic.outages.find? (fun x => x.id == id)

/-- The outage that carries a reference: of several, the one of the lowest id (log entry 36). -/
def Picture.outageByRef? (pic : Picture) (ref : Nat) : Option Outage :=
  pic.outages.find? (fun x => x.ref == ref)

/-- The channels that measure a segment, in ascending unit and index (R12). -/
def Picture.channelsOf (pic : Picture) (segment : Nat) : List Channel :=
  pic.channels.filter (fun c => c.segment == segment)

/-- A valve touches a segment or a source when either of its ends is it (R4). -/
def Valve.touches (v : Valve) (e : End) : Bool := v.endA == e || v.endB == e

/-- A valve passes gas in every position except CLOSED (R5). -/
def Valve.passes (v : Valve) : Bool := v.position != .closed

/-- A non-terminal order is one not DONE, CANCELLED or EXPIRED (R88). -/
def Order.terminal (o : Order) : Bool :=
  o.state == .done || o.state == .cancelled || o.state == .expired

/-- The chain is complete: EXECUTING with every step CONFIRMED (R102). -/
def Order.chainComplete (o : Order) : Bool :=
  o.state == .executing && o.steps.all (fun t => t.state == .confirmed)

/-- An open call is one in any state except CLOSED (R116). -/
def Call.isOpen (c : Call) : Bool := c.state != .closed

/-- An unsafe call is in NEW, ASSIGNED or ON_SITE (R116). -/
def Call.isUnsafe (c : Call) : Bool :=
  c.state == .new || c.state == .assigned || c.state == .onSite

/-- An open outage is ACTIVE or RESTORING (R144). -/
def Outage.isOpen (o : Outage) : Bool := o.state != .closed

/-! ### An event in progress -/

/-- The operating picture while one event acts on it, with the notices the event has raised so far, in
order. They are routed at the event's end (log entry 31). -/
structure Work extends Picture where
  out : List Raise
deriving DecidableEq, Repr

/-- Hand the router a kind, a subject and a detail (R168). -/
def Work.raise (w : Work) (kind : NoticeKind) (subject : Nat) (detail : Option Detail) : Work :=
  { w with out := w.out ++ [⟨kind, subject, detail⟩] }

def Work.updSegment (w : Work) (id : Nat) (g : Segment → Segment) : Work :=
  { w with segments := w.segments.map (fun x => if x.id == id then g x else x) }

def Work.updValve (w : Work) (id : Nat) (g : Valve → Valve) : Work :=
  { w with valves := w.valves.map (fun x => if x.id == id then g x else x) }

def Work.updSource (w : Work) (id : Nat) (g : Source → Source) : Work :=
  { w with sources := w.sources.map (fun x => if x.id == id then g x else x) }

def Work.updUnit (w : Work) (id : Nat) (g : FieldUnit → FieldUnit) : Work :=
  { w with units := w.units.map (fun x => if x.id == id then g x else x) }

def Work.updChannel (w : Work) (unit index : Nat) (g : Channel → Channel) : Work :=
  { w with
    channels := w.channels.map (fun x => if x.unit == unit && x.index == index then g x else x) }

def Work.updOrder (w : Work) (slot : Nat) (g : Order → Order) : Work :=
  { w with orders := w.orders.map (fun x => if x.slot == slot then g x else x) }

def Work.updCall (w : Work) (slot : Nat) (g : Call → Call) : Work :=
  { w with calls := w.calls.map (fun x => if x.slot == slot then g x else x) }

def Work.updOutage (w : Work) (id : Nat) (g : Outage → Outage) : Work :=
  { w with outages := w.outages.map (fun x => if x.id == id then g x else x) }

/-- Set the sweep engine's actual-pending flag (R50). -/
def Work.setActualPending (w : Work) : Work :=
  { w with sweep := { w.sweep with actualPending := true } }

/-- Do something for each number of a list, in its order. -/
def Work.forEach (ids : List Nat) (g : Nat → Work → Work) (w : Work) : Work :=
  ids.foldl (fun acc id => g id acc) w

end Sys2Proof.Machine
end

