-- ==== Sys2Proof/Machine/Flags.lean ====
section
/-! DEFINITION. Flag computations: the conversion of a raw count with UNDER and OVER, the filter, the limits
with their hysteresis, fall detection, and the segment summary (02: R31 to R37). -/

namespace Sys2Proof.Machine

/-- Largest pressure (R10). -/
def maxPressure : Nat := 1048575

/-- UNDER: the raw count lies below the zero (R31). -/
def underFlag (r z : Nat) : Bool := decide (r < z)

/-- The scale stage before its clamp: floor((c × G + 128) / 256), with c the count above zero (R31). -/
def scaled (r z gain : Nat) : Nat := ((r - z) * gain + 128) / 256

/-- OVER: the scaled value exceeds 1,048,575 (R31). -/
def overFlag (r z gain : Nat) : Bool := decide (maxPressure < scaled r z gain)

/-- The converted pressure P (R31). -/
def convert (r z gain : Nat) : Nat := min (scaled r z gain) maxPressure

/-- The adjustment floor((d + 2^(s−1)) / 2^s), floor towards minus infinity (R32). -/
def filterAdjust (s : Nat) (d : Int) : Int := (d + 2 ^ (s - 1)) / 2 ^ s

/-- The filter stage of a non-seed update (R32). -/
def filterStep (s old p : Nat) : Nat :=
  if s = 0 then p else ((old : Int) + filterAdjust s ((p : Int) - (old : Int))).toNat

/-- A channel is fresh in NORMAL, LOW or HIGH (02: Channel states). -/
def Channel.fresh (c : Channel) : Bool :=
  c.state == .normal || c.state == .low || c.state == .high

/-- The enter limits, from NORMAL and on every seed (R34). -/
def enterLimits (c : Channel) (f : Nat) : ChannelState :=
  if f < c.loEnter then .low else if c.hiEnter < f then .high else .normal

/-- The limits stage (R34): a non-seed update first applies the exit limits of its state. -/
def limitState (c : Channel) (f : Nat) : ChannelState :=
  match c.state with
  | .low => if c.loExit < f then enterLimits c f else .low
  | .high => if f < c.hiExit then enterLimits c f else .high
  | .normal | .unknown | .fault | .stale => enterLimits c f

/-- The fall detection stage (R35): a seed clears FALLING, a fall limit of 0 keeps it clear. -/
def fallingFlag (c : Channel) (seed : Bool) (old f : Nat) : Bool :=
  if seed then false
  else if c.fallLimit = 0 then false
  else if f + c.fallLimit ≤ old then true
  else if old ≤ f then false
  else c.falling

/-- The pressure summary of a segment from its channels, the first case that applies (R37). -/
def summaryOf (chs : List Channel) : Summary :=
  if chs.isEmpty then .noChannel
  else if !chs.any Channel.fresh then .unknown
  else if chs.any (fun c => c.state == .low) then .low
  else if chs.any (fun c => c.state == .high) then .high
  else .normal

/-- The FALLING flag of a segment: any fresh channel has it set (R37). -/
def fallingOf (chs : List Channel) : Bool := chs.any (fun c => c.fresh && c.falling)

/-- A segment's low alarms are suppressed in OFF or PURGE, or while an order holds it (R41). -/
def Segment.suppressed (g : Segment) : Bool :=
  g.supply == .off || g.supply == .purge || !g.holders.isEmpty

/-- A segment corroborates while its summary is LOW or its FALLING flag is set (R122). -/
def Segment.corroborates (g : Segment) : Bool := g.summary == .low || g.falling

/-- The index of a channel in the CHANNEL table and as a notice subject: unit × 4 + index (R44). -/
def channelIndex (unit index : Nat) : Nat := unit * 4 + index

end Sys2Proof.Machine
end

