-- ==== Sys2Proof/Machine/Sweep.lean ====
section
/-! DEFINITION. The sweep engine (03): the computation of the supplied set, starts and the choice of the next
sweep. -/

namespace Sys2Proof.Machine

/-- Does a valve join this segment to the set (R47)? A valve between two segments joins in both directions. -/
def Valve.joins (v : Valve) (id : Nat) (set : List Nat) : Bool :=
  match v.endA, v.endB with
  | .segment a, .segment b => (a == id && set.contains b) || (b == id && set.contains a)
  | _, _ => false

/-- Is this valve the seed of a segment: does it join it to a source that is LIVE in the inputs (R47)? -/
def Valve.seeds (v : Valve) (id : Nat) (live : List Nat) : Bool :=
  match v.endA, v.endB with
  | .source q, .segment a => a == id && live.contains q
  | .segment a, .source q => a == id && live.contains q
  | _, _ => false

/-- One round of the closure: every segment of the model that is in the set, or that a passing valve joins to
it (R47). -/
def closeRound (passing : List Valve) (ids set : List Nat) : List Nat :=
  ids.filter (fun id => set.contains id || passing.any (fun v => v.joins id set))

/-- Rounds of the closure. -/
def closeRounds (passing : List Valve) (ids : List Nat) : Nat → List Nat → List Nat
  | 0, set => set
  | n + 1, set => closeRounds passing ids n (closeRound passing ids set)

/-- The seeded segments (R47, stage 1). -/
def seedSet (passing : List Valve) (ids live : List Nat) : List Nat :=
  ids.filter (fun id => passing.any (fun v => v.seeds id live))

/-- The supplied set (R47): the seeds, closed in as many rounds as there are segments, which is enough for
no more to be added. -/
def suppliedBy (passing : List Valve) (ids live : List Nat) : List Nat :=
  closeRounds passing ids ids.length (seedSet passing ids live)

/-- The ids of the segments in service, in ascending order. -/
def Picture.segmentIds (pic : Picture) : List Nat := pic.segments.map (fun g => g.id)

/-- The supplied set of a sweep on its inputs (R47, R48). -/
def Picture.supplied (pic : Picture) (inp : SweepInputs) : List Nat :=
  suppliedBy (pic.valves.filter (fun v => inp.passing.contains v.id)) pic.segmentIds inp.live

/-- The unsupplied set (R47): the segments in service not in a supplied set. -/
def Picture.unsupplied (pic : Picture) (supplied : List Nat) : List Nat :=
  pic.segmentIds.filter (fun id => !supplied.contains id)

/-- The inputs of a sweep: the passing status of every valve, with the valves of a plan taken as CLOSED, and
the sources that are LIVE (R48). -/
def Picture.inputs (pic : Picture) (plan : List Nat) : SweepInputs :=
  { passing := (pic.valves.filter (fun v => v.passes && !plan.contains v.id)).map (fun v => v.id)
    live := (pic.sources.filter (fun q => q.state == .live)).map (fun q => q.id) }

/-- Start of an actual sweep: actual-pending is cleared and the inputs are fixed (R53). -/
def Work.startActual (w : Work) : Work :=
  { w with
    sweep := { w.sweep with flight := .actual (w.inputs []), actualPending := false } }

/-- Start of a planned sweep for the oldest request of the list (R53). -/
def Work.startPlanned (w : Work) : Work :=
  match w.sweep.requests with
  | [] => w
  | r :: rest =>
    { w with sweep := { w.sweep with flight := .planned r (w.inputs r.plan), requests := rest } }

/-- The choice at the completion of an actual sweep (R52): the oldest planned request, else an actual sweep if
pending, else IDLE. -/
def Work.nextAfterActual (w : Work) : Work :=
  if !w.sweep.requests.isEmpty then w.startPlanned
  else if w.sweep.actualPending then w.startActual
  else { w with sweep := { w.sweep with flight := .idle } }

/-- The choice at the completion of a planned sweep (R52): an actual sweep if pending, else the oldest planned
request, else IDLE. -/
def Work.nextAfterPlanned (w : Work) : Work :=
  if w.sweep.actualPending then w.startActual
  else if !w.sweep.requests.isEmpty then w.startPlanned
  else { w with sweep := { w.sweep with flight := .idle } }

/-- Waking from IDLE (R52): an event that sets actual-pending or adds a planned request while the engine is
IDLE starts the sweep it has asked for, on the state as the event leaves it. -/
def Work.wake (w : Work) (before : Picture) : Work :=
  if w.sweep.flight = .idle then
    if w.sweep.actualPending && !before.sweep.actualPending then w.startActual
    else if !w.sweep.requests.isEmpty && before.sweep.requests.isEmpty then w.startPlanned
    else w
  else w

/-- Join the planned-request list at its end (R51). -/
def Work.joinRequest (w : Work) (r : PlannedRequest) : Work :=
  { w with sweep := { w.sweep with requests := w.sweep.requests ++ [r] } }

end Sys2Proof.Machine
end

