-- ==== Sys2Proof/Machine/Valves.lean ====
section
/-! DEFINITION. The valve block (04): positions, commands for REMOTE valves, the field command queue,
instructions for MANUAL valves, holding, withdrawal, the OPEN interlock, faults and sources. -/

namespace Sys2Proof.Machine

/-- The position an action names (R64). -/
def Action.target : Action → Position
  | .open_ => .open_ | .close => .closed

/-- The travel position of an action (R64). -/
def Action.travel : Action → Position
  | .open_ => .opening | .close => .closing

/-- The detail of CREW_INSTRUCTION for an action (R72). -/
def Action.instruction : Action → Instruction
  | .open_ => .open_ | .close => .close

/-- Capacity of the field command queue (R65). -/
def cmdQueueCap : Nat := 32

/-- A valve's position, as the valve block passes it to the order engine (R78). -/
def Picture.positionOf (pic : Picture) (vid : Nat) : Position :=
  match pic.valve? vid with | some v => v.position | none => .unknown

/-- Change a valve's position (R5, R64): a change writes the time of last position change, and one between
CLOSED and any other position sets actual-pending. -/
def Work.setPosition (w : Work) (vid : Nat) (q : Position) : Work :=
  match w.valve? vid with
  | none => w
  | some v =>
    if v.position = q then w
    else
      let moved := w.updValve vid (fun x => { x with position := q, lastChange := w.now })
      if (v.position == .closed) != (q == .closed) then moved.setActualPending else moved

/-! ### The field command queue -/

/-- The queued action of a valve, if it has an entry (R17). -/
def Picture.queuedAction (pic : Picture) (vid : Nat) : Option Action :=
  (pic.cmdQueue.find? (fun e => e.valve == vid)).map (fun e => e.action)

/-- A command joins the queue at its end, or becomes the valve's pending command when the queue is full
(R65). -/
def Work.joinQueue (w : Work) (vid : Nat) (a : Action) : Work :=
  if w.cmdQueue.length < cmdQueueCap then { w with cmdQueue := w.cmdQueue ++ [⟨vid, a⟩] }
  else w.updValve vid (fun x => { x with pendingCmd := some a })

/-- Replace in place the action of a valve's entry or pending command (R64, R65). -/
def Work.replaceAction (w : Work) (vid : Nat) (a : Action) : Work :=
  let w1 : Work := { w with
    cmdQueue := w.cmdQueue.map (fun e => if e.valve == vid then { e with action := a } else e) }
  w1.updValve vid (fun x =>
    { x with pendingCmd := match x.pendingCmd with | some _ => some a | none => none })

/-- Remove a valve's entry or pending command (R64, R69, R74, R79, R81). -/
def Work.dropCommand (w : Work) (vid : Nat) : Work :=
  let w1 : Work := { w with cmdQueue := w.cmdQueue.filter (fun e => e.valve != vid) }
  w1.updValve vid (fun x => { x with pendingCmd := none })

/-- Move one valve's pending command to the end of the queue, if there is room (R66). -/
def Work.movePending (vid : Nat) (w : Work) : Work :=
  match w.valve? vid with
  | none => w
  | some v =>
    match v.pendingCmd with
    | none => w
    | some a =>
      if w.cmdQueue.length < cmdQueueCap then
        ({ w with cmdQueue := w.cmdQueue ++ [⟨vid, a⟩] } : Work).updValve vid
          (fun x => { x with pendingCmd := none })
      else w

/-- Freed space takes pending commands in ascending valve id (R66). -/
def Work.fillQueue (w : Work) : Work :=
  w.forEach (w.valves.map (fun v => v.id)) Work.movePending

/-! ### Commands -/

/-- How the valve block answers a command or an instruction: done at once, taken, or refused by the
interlock (R64, R72, R80). -/
inductive Taken where
  | doneAtOnce
  | taken
  | refused
deriving DecidableEq, Repr

/-- The unsafe class-A count at an end of a valve; a source end plays no part (R80). -/
def Picture.countAt (pic : Picture) : End → Nat
  | .segment i => match pic.segment? i with | some g => g.unsafeA | none => 0
  | .source _ => 0

/-- An OPEN for this valve is interlocked (R80). -/
def Picture.interlocked (pic : Picture) (v : Valve) : Bool :=
  0 < pic.countAt v.endA || 0 < pic.countAt v.endB

/-- Return a valve that awaits pull to rest in its prior position, its entry or pending command removed
(R64, R79, R81). Freed queue space is not filled here. -/
def Work.returnToPrior (w : Work) (vid : Nat) (q : Position) : Work :=
  ((w.dropCommand vid).updValve vid (fun x => { x with prior := none })).setPosition vid q

/-- A command past the interlock, taken according to the valve's condition: the table of R64. A valve with a
window is in travel, one with a prior position awaits pull, any other is at rest (R63). -/
def Work.takeCommand (w : Work) (v : Valve) (a : Action) : Taken × Work :=
  match v.window, v.prior with
  | some _, _ =>
    if v.position = a.travel then (.taken, w)
    else
      (.taken, ((w.updValve v.id (fun x =>
        { x with window := none, prior := some .unknown })).joinQueue v.id a).setPosition v.id a.travel)
  | none, some q =>
    if q = a.target then (.doneAtOnce, (w.returnToPrior v.id q).fillQueue)
    else (.taken, (w.replaceAction v.id a).setPosition v.id a.travel)
  | none, none =>
    if v.position = a.target then (.doneAtOnce, w)
    else
      (.taken, ((w.updValve v.id (fun x =>
        { x with prior := some v.position })).joinQueue v.id a).setPosition v.id a.travel)

/-- A command for a REMOTE valve: an OPEN first meets the interlock, which changes nothing (R64, R80). -/
def Work.command (w : Work) (v : Valve) (a : Action) : Taken × Work :=
  if a = .open_ ∧ w.interlocked v = true then (.refused, w) else w.takeCommand v a

/-- An instruction for a MANUAL valve (R72). -/
def Work.instruct (w : Work) (v : Valve) (a : Action) : Taken × Work :=
  if a = .open_ ∧ w.interlocked v = true then (.refused, w)
  else if v.position = a.target then
    (.doneAtOnce, w.updValve v.id (fun x => { x with outstanding := none }))
  else
    (.taken, (w.updValve v.id (fun x => { x with outstanding := some a })).raise .crewInstruction v.id
      (some (.instruction a.instruction)))

/-- What the order engine asks of the valve block for a step: a command or an instruction (R100, R110). -/
def Work.ask (w : Work) (vid : Nat) (a : Action) : Taken × Work :=
  match w.valve? vid with
  | none => (.taken, w)
  | some v =>
    match v.kind with
    | .remote => w.command v a
    | .manual => w.instruct v a

/-- How the valve block answers a withdrawal asked for by the order engine (R79). -/
inductive Withdrawal where
  | withdrawn
  | inTravel
  | nothing
deriving DecidableEq, Repr

/-- Withdraw the command or instruction of a held valve, naming the action expected, with the answer (R79; its NONE is
`nothing`). -/
def Work.withdraw (w : Work) (vid : Nat) (a : Action) : Withdrawal × Work :=
  match w.valve? vid with
  | none => (.nothing, w)
  | some v =>
    match v.kind with
    | .remote =>
      match v.window, v.prior with
      | some _, _ => (.inTravel, w)
      | none, some q =>
        if v.position = a.travel then (.withdrawn, (w.returnToPrior vid q).fillQueue)
        else (.nothing, w)
      | none, none => (.nothing, w)
    | .manual =>
      if v.outstanding = some a then
        (.withdrawn, (w.updValve vid (fun x => { x with outstanding := none })).raise .crewInstruction
          vid (some (.instruction .hold)))
      else (.nothing, w)

/-- Hold a valve for an order (R77). -/
def Work.hold (ref : Nat) (vid : Nat) (w : Work) : Work :=
  w.updValve vid (fun x => { x with holder := some ref })

/-- Release a valve that an order holds: the holder and any outstanding instruction are cleared without a
notice (R77). -/
def Work.release (ref : Nat) (vid : Nat) (w : Work) : Work :=
  w.updValve vid (fun x =>
    if x.holder = some ref then { x with holder := none, outstanding := none } else x)

/-- Entry into FAULT (R70); the order engine is told by the caller. -/
def Work.enterFault (w : Work) (vid : Nat) (why : FaultCause) : Work :=
  ((w.setPosition vid .fault).updValve vid (fun x =>
    { x with window := none, operable := false })).raise .valveFault vid (some (.faultCause why))

/-! ### The interlock's withdrawal (R81) -/

/-- Withdraw what a rise of a count interlocks for one valve (R81): an OPEN that awaits pull, or an
outstanding OPEN instruction. -/
def Work.withdrawOpen (vid : Nat) (w : Work) : Work :=
  match w.valve? vid with
  | none => w
  | some v =>
    match v.kind with
    | .remote =>
      match v.window, v.prior with
      | none, some q =>
        if v.position = .opening then
          let w1 := w.returnToPrior vid q
          if v.holder = none then w1.raise .valveMoved vid (some (.position q)) else w1
        else w
      | _, _ => w
    | .manual =>
      if v.outstanding = some .open_ then
        (w.updValve vid (fun x => { x with outstanding := none })).raise .crewInstruction vid
          (some (.instruction .hold))
      else w

/-- Does a valve have in hand what R81 withdraws? -/
def Valve.hasOpenInHand (v : Valve) : Bool :=
  match v.kind with
  | .remote => v.window.isNone && v.prior.isSome && v.position == .opening
  | .manual => v.outstanding == some .open_

/-- The valves touching a segment, in ascending id (R81, R82). -/
def Picture.valvesTouching (pic : Picture) (e : End) : List Nat :=
  (pic.valves.filter (fun v => v.touches e)).map (fun v => v.id)

/-! ### Sources -/

/-- Set a source's state and cause; a change raises SOURCE_STATE and sets actual-pending (R83, R84, R50). -/
def Work.writeSource (w : Work) (q : Source) (st : SourceState) (cause : Option OutCause) : Work :=
  if q.state = st ∧ q.cause = cause then w
  else
    ((w.updSource q.id (fun x => { x with state := st, cause := cause })).raise .sourceState q.id
      (some (.sourceState st cause))).setActualPending

/-- A trip passed from the pressure monitor takes the source OUT with cause TRIP (R84). -/
def Work.trip (w : Work) (sid : Nat) : Work :=
  match w.source? sid with
  | none => w
  | some q => w.writeSource q .out (some .trip)

end Sys2Proof.Machine
end

