-- ==== Sys2Proof/Machine/Orders.lean ====
section
/-! DEFINITION. The order engine (05): the order table, proposal and commit, the closing chain, verification,
breach, restoration and cancellation; with the dispatch conditions of the authority block (08: R164 to R166). -/

namespace Sys2Proof.Machine

/-- What a request is answered with: a result code and a payload (R181). -/
abbrev Answer := Result × List Byte

/-- What the valve block passes to the order engine for a held valve (R78); a command answered as done at once and an
OPEN refused at issue are the answers of `Work.ask`. -/
inductive Passed where
  /-- A report or an assertion: the position as the event leaves it, whether it changed, and whether a VALVE_ASSERT
  removed a command or instruction on the way (R74, log entry 17). No rule of the order engine asks whether it
  changed (R101: changed or not). -/
  | position (q : Position) (changed withdrawn : Bool)
  /-- Entry into FAULT (R70). -/
  | fault
  /-- The interlock removed an OPEN (R81); `back` is the position the valve returned to. -/
  | interlockWithdrawal (back : Position)
  /-- A count of a segment that the valve touches has fallen to 0 (R82). -/
  | clearance
deriving DecidableEq, Repr

/-! ### States and their notices (R114) -/

/-- Put an order into a state and raise ORDER_STATE; for ISOLATED with the verification result (R114). -/
def Work.enterOrderState (w : Work) (o : Order) (st : OrderState) (result : Option Verification) : Work :=
  (w.updOrder o.slot (fun x => { x with state := st })).raise .orderState o.ref
    (some (.orderState st result))

/-- ISOLATED with a result: the decay deadline and list are cleared (R103, R104, R105, R109). -/
def Work.isolate (w : Work) (o : Order) (v : Verification) : Work :=
  (w.updOrder o.slot (fun x =>
    { x with verification := some v, decayDeadline := none, decayList := [] })).enterOrderState o
      .isolated (some v)

/-- An order becomes terminal: it releases every step valve it holds, leaves the holding orders of every
segment, takes the next place in the order of becoming terminal, and ORDER_STATE is raised (R88, R89, R112). -/
def Work.endOrder (w : Work) (o : Order) (st : OrderState) : Work :=
  let released := w.forEach (o.steps.map (fun t => t.valve)) (Work.release o.ref)
  let freed : Work := { released with
    segments := released.segments.map (fun g => { g with holders := g.holders.filter (· != o.ref) })
    terminalSlots := released.terminalSlots.filter (· != o.slot) ++ [o.slot] }
  (freed.updOrder o.slot (fun x => { x with expiry := none })).enterOrderState o st none

/-! ### The closing chain (R100 to R102) -/

/-- A step's state after a CLOSE is asked for (R100). -/
def markClose : Taken → StepState
  | .doneAtOnce => .confirmed | .taken => .issued | .refused => .issued

/-- A step's state after an OPEN is asked for (R110). -/
def markOpen : Taken → StepState
  | .doneAtOnce => .reopened | .taken => .issued | .refused => .blocked

/-- Issue a rank: its steps in chain order (R100, R110). -/
def issueSteps (a : Action) (mark : Taken → StepState) (rank : Nat) : List Step → Work → List Step × Work
  | [], w => ([], w)
  | t :: ts, w =>
    if t.rank = rank then
      let asked := w.ask t.valve a
      let rest := issueSteps a mark rank ts asked.2
      ({ t with state := mark asked.1 } :: rest.1, rest.2)
    else
      let rest := issueSteps a mark rank ts w
      (t :: rest.1, rest.2)

def Work.issueRank (w : Work) (o : Order) (a : Action) (mark : Taken → StepState) (rank : Nat) : Work :=
  let r := issueSteps a mark rank o.steps w
  r.2.updOrder o.slot (fun x => { x with steps := r.1 })

def Work.setStep (w : Work) (slot vid : Nat) (st : StepState) : Work :=
  w.updOrder slot (fun x =>
    { x with steps := x.steps.map (fun t => if t.valve == vid then { t with state := st } else t) })

/-- Ask for a fresh CLOSE of one step (R101, R107, R109). -/
def Work.reissueClose (w : Work) (slot vid : Nat) : Work :=
  let asked := w.ask vid .close
  asked.2.setStep slot vid (markClose asked.1)

/-- The lowest rank among steps not yet issued (R100). -/
def lowestWaiting (steps : List Step) : Option Nat :=
  ((steps.filter (fun t => t.state == .waiting)).map (fun t => t.rank)).min?

/-- While every step of every issued rank is CONFIRMED, issue the next higher rank present (R100). Eight
rounds are enough, since ranks are 0 to 7. -/
def Work.advanceClosing : Nat → Nat → Work → Work
  | 0, _, w => w
  | n + 1, slot, w =>
    match w.order? slot with
    | none => w
    | some o =>
      if o.steps.all (fun t => t.state == .waiting || t.state == .confirmed) then
        match lowestWaiting o.steps with
        | none => w
        | some rank => Work.advanceClosing n slot (w.issueRank o .close markClose rank)
      else w

/-- Chain completion: actual-pending is set and ORDER_STATE raised with CHAIN_COMPLETE (R102). -/
def Work.completeChain (w : Work) (slot : Nat) : Work :=
  match w.order? slot with
  | none => w
  | some o =>
    if o.chainComplete then w.setActualPending.raise .orderState o.ref (some .chainComplete) else w

/-- Carry a chain on after a confirmation or at the commit (R100, R102). -/
def Work.progressClosing (w : Work) (slot : Nat) : Work :=
  (Work.advanceClosing 8 slot w).completeChain slot

/-! ### Restoration (R110 to R112) -/

/-- The highest rank among steps below a bound (R110). -/
def highestBelow (steps : List Step) (bound : Nat) : Option Nat :=
  ((steps.filter (fun t => decide (t.rank < bound))).map (fun t => t.rank)).max?

/-- Issue a rank for reopening, and record it as the lowest issued (R110). -/
def Work.issueReopen (w : Work) (o : Order) (rank : Nat) : Work :=
  (w.issueRank o .open_ markOpen rank).updOrder o.slot (fun x => { x with reopening := some rank })

/-- While every step of every rank issued for reopening is REOPENED, issue the next lower rank; when the
lowest is reopened the order completes as DONE, or CANCELLED with the cancelling mark (R110, R112). -/
def Work.progressReopening : Nat → Nat → Work → Work
  | 0, _, w => w
  | n + 1, slot, w =>
    match w.order? slot with
    | none => w
    | some o =>
      match o.reopening with
      | none => w
      | some low =>
        if o.steps.all (fun t => decide (t.rank < low) || t.state == .reopened) then
          match highestBelow o.steps low with
          | some rank => Work.progressReopening n slot (w.issueReopen o rank)
          | none => w.endOrder o (if o.cancelling then .cancelled else .done)
        else w

/-- Start reopening at the highest rank present (R109, R113). Nine rounds: eight ranks and the completion. -/
def Work.beginReopening (w : Work) (slot : Nat) : Work :=
  match w.order? slot with
  | none => w
  | some o =>
    match highestBelow o.steps 8 with
    | none => w
    | some rank => Work.progressReopening 9 slot (w.issueReopen o rank)

/-! ### What the valve block passes (R101, R107, R109, R111) -/

/-- EXECUTING before the chain is complete, and BREACHED (R101, R109). When a step valve of a BREACHED order leaves CLOSED again,
no rule orders BREACH against the CREW_INSTRUCTION of the fresh CLOSE: BREACH comes first (DESIGN CHOICE, log entry 22). -/
def Work.passClosing (w : Work) (o : Order) (t : Step) : Passed → Work
  | .position q _ withdrawn =>
    if q = .closed then
      if t.state = .issued ∨ t.state = .failed then
        (w.setStep o.slot t.valve .confirmed).progressClosing o.slot
      else w
    else if t.state = .issued ∧ withdrawn = true then w.setStep o.slot t.valve .failed
    else if t.state = .confirmed then
      if o.state = .breached then
        (w.raise .breach o.ref (some (.breachValve t.valve))).reissueClose o.slot t.valve
      else w.reissueClose o.slot t.valve
    else w
  | .fault => if t.state = .issued then w.setStep o.slot t.valve .failed else w
  | .interlockWithdrawal _ => w
  | .clearance => w

/-- A step valve of an ISOLATED, LETBY or chain complete order leaves CLOSED (R107). -/
def Work.passBreach (w : Work) (o : Order) (t : Step) : Passed → Work
  | .position q _ _ =>
    if q = .closed then w
    else
      (((w.updOrder o.slot (fun x => { x with decayDeadline := none, decayList := [] })).raise
        .breach o.ref (some (.breachValve t.valve))).enterOrderState o .breached none).reissueClose
          o.slot t.valve
  | .fault | .interlockWithdrawal _ | .clearance => w

/-- RESTORING, for a step of a rank issued for reopening (R111). -/
def Work.passRestoring (w : Work) (o : Order) (t : Step) : Passed → Work
  | .position q _ withdrawn =>
    if q = .open_ then
      if t.state = .issued ∨ t.state = .blocked ∨ t.state = .failed then
        Work.progressReopening 9 o.slot (w.setStep o.slot t.valve .reopened)
      else w
    else if t.state = .issued ∧ withdrawn = true then w.setStep o.slot t.valve .failed
    else w
  | .fault => if t.state = .issued then w.setStep o.slot t.valve .failed else w
  | .interlockWithdrawal _ => if t.state = .issued then w.setStep o.slot t.valve .blocked else w
  | .clearance =>
    if t.state = .blocked then
      let asked := w.ask t.valve .open_
      Work.progressReopening 9 o.slot (asked.2.setStep o.slot t.valve (markOpen asked.1))
    else w

/-- A clearance reaches a BLOCKED step only with every segment end of its valve at count 0 (R82, R111); the
fresh OPEN meets the interlock again, which then refuses it and leaves the step BLOCKED. -/
def Work.passToOrder (w : Work) (vid : Nat) (e : Passed) : Work :=
  match w.valve? vid with
  | none => w
  | some v =>
    match v.holder with
    | none => w
    | some ref =>
      match w.orderByRef? ref with
      | none => w
      | some o =>
        match o.steps.find? (fun t => t.valve == vid) with
        | none => w
        | some t =>
          match o.state with
          | .executing => if o.chainComplete then w.passBreach o t e else w.passClosing o t e
          | .isolated | .letby => w.passBreach o t e
          | .breached => w.passClosing o t e
          | .restoring =>
            match o.reopening with
            | none => w
            | some low => if t.rank < low then w else w.passRestoring o t e
          | .proposed | .done | .cancelled | .expired => w

/-! ### The counts' announcements (R81, R82, R134) -/

/-- A count has risen from 0: every touching valve is withdrawn in ascending id, freed space is then filled
(log entry 28), and each withdrawal from a held valve is passed to its order (R81). -/
def Work.announceRise (w : Work) (segment : Nat) : Work :=
  let ids := w.valvesTouching (.segment segment)
  let held := ids.filter (fun i =>
    match w.valve? i with
    | some v => v.hasOpenInHand
    | none => false)
  let withdrawn := (w.forEach ids Work.withdrawOpen).fillQueue
  withdrawn.forEach held (fun i acc => acc.passToOrder i (.interlockWithdrawal (withdrawn.positionOf i)))

/-- A count has fallen to 0: a clearance for every held valve touching the segment, in ascending id (R82). -/
def Work.announceFall (w : Work) (segment : Nat) : Work :=
  w.forEach (w.valvesTouching (.segment segment)) (fun i acc => acc.passToOrder i .clearance)

/-! ### Proposal (R88 to R94) -/

/-- The ends of a valve that are region segments. -/
def Valve.regionEnds (v : Valve) (region : List Nat) : Nat :=
  (match v.endA with | .segment i => (if region.contains i then 1 else 0) | .source _ => 0) +
  (match v.endB with | .segment i => (if region.contains i then 1 else 0) | .source _ => 0)

/-- The boundary of a region: the valves with exactly one end in it that are not CLOSED (R91). -/
def Picture.boundary (pic : Picture) (region : List Nat) : List Valve :=
  pic.valves.filter (fun v => v.regionEnds region == 1 && v.position != .closed)

/-- The end of a boundary valve outside the region (R91). -/
def Valve.outerEnd (v : Valve) (region : List Nat) : End :=
  match v.endA with
  | .segment i => if region.contains i then v.endB else v.endA
  | .source _ => v.endA

/-- Boundary expansion (R91): past the lowest-numbered inoperable or FAULT boundary valve, until there is none;
at most 16 segments and 1 to 32 steps. Each round but the last adds a segment, so 17 rounds are enough. -/
def Picture.expand (pic : Picture) : Nat → List Nat → Option (List Nat × List Step)
  | 0, _ => none
  | n + 1, region =>
    match (pic.boundary region).find? (fun v => !v.operable || v.position == .fault) with
    | some v =>
      match v.outerEnd region with
      | .source _ => none
      | .segment i =>
        if (putNat i region).length ≤ 16 then pic.expand n (putNat i region) else none
    | none =>
      if (pic.boundary region).isEmpty || decide (32 < (pic.boundary region).length) then none
      else some (region, (pic.boundary region).map (fun v => ⟨v.id, 0, .waiting⟩))

/-- An explicit step list (R92): every valve exists, is operable and is not in FAULT. -/
def Picture.explicit (pic : Picture) (target : Nat) (steps : List Step) :
    Option (List Nat × List Step) :=
  if steps.all (fun t =>
    match pic.valve? t.valve with
    | some v => v.operable && v.position != .fault
    | none => false) then some ([target], steps) else none

/-- Region and steps of a proposal or, formed anew, of a commit (R90, R96). -/
def Picture.formRegion (pic : Picture) (automatic : Bool) (target : Nat) (steps : List Step) :
    Option (List Nat × List Step) :=
  if automatic then pic.expand 17 [target] else pic.explicit target steps

/-- The slot of a new order: the lowest never used, else the one whose record became terminal earliest (R88). -/
def Picture.orderSlot (pic : Picture) : Option Nat :=
  match lowestFree (pic.orders.map (fun o => o.slot)) 16 with
  | some k => some k
  | none => pic.terminalSlots.head?

/-- The steps of a PROPOSE_ISOLATION payload: each valve 2 bytes and rank 1 (R192). -/
def stepsOf (pl : List Byte) (at0 : Nat) : Nat → List Step
  | 0 => []
  | n + 1 => ⟨u16 pl at0, u8 pl (at0 + 2), .waiting⟩ :: stepsOf pl (at0 + 3) n

/-- No number of a list stands in it twice. -/
def distinct : List Nat → Bool
  | [] => true
  | x :: xs => !xs.contains x && distinct xs

/-- The call register appends a new order to a call's linked orders, if fewer than 4 (R135). -/
def Work.linkCall (w : Work) (callRef orderRef : Nat) : Work :=
  match w.callByRef? callRef with
  | none => w
  | some c =>
    if c.links.length < 4 then w.updCall c.slot (fun x => { x with links := x.links ++ [orderRef] })
    else w

/-- The record of a new order (R93, step 1). -/
def newOrder (slot ref : Nat) (p : Port) (call : Option Nat) (target : Nat) (automatic override : Bool)
    (formed : List Nat × List Step) (now lifetime : Nat) : Order :=
  { slot := slot, ref := ref, origin := p, linkedCall := call, target := target,
    region := formed.1, automatic := automatic, steps := formed.2, expectedOff := [],
    newlyAffected := [], customerSum := 0, priorityCut := false, override := override,
    state := .proposed, proposed := now, verification := none, decayDeadline := none,
    decayList := [], figuresPending := true, commitInHand := false, cancelling := false,
    expiry := some (now + lifetime), reopening := none }

/-- The effects of a proposal that passes (R93). -/
def Work.propose (w : Work) (p : Port) (slot : Nat) (call : Option Nat) (target : Nat)
    (automatic override : Bool) (formed : List Nat × List Step) : Work :=
  let ref := w.nextOrderRef
  let o := newOrder slot ref p call target automatic override formed w.now w.timing.proposalLifetime
  let made : Work := { w with
    orders := putBy Order.slot o w.orders
    nextOrderRef := nextRef ref
    terminalSlots := w.terminalSlots.filter (· != slot) }
  let linked := match call with | some c => made.linkCall c ref | none => made
  linked.joinRequest ⟨p, .propose, slot, ref, formed.2.map (fun t => t.valve)⟩

/-- PROPOSE_ISOLATION's own checks (R90), then its effects; a refusal carries its code. -/
def Work.takePropose (w : Work) (p : Port) (pl : List Byte) : Except Result Work :=
  let target := u8 pl 0
  let call := u16 pl 1
  let count := u8 pl 4
  let steps := stepsOf pl 5 count
  match flagOf (u8 pl 3) with
  | none => .error .badValue
  | some override =>
    if 32 < count || steps.any (fun t => decide (511 < t.valve) || decide (7 < t.rank)) ||
        !distinct (steps.map (fun t => t.valve)) then .error .badValue
    else if (w.segment? target).isNone || (call != 0 && (w.callByRef? call).isNone) then
      .error .noSuch
    else
      match w.formRegion (count == 0) target steps with
      | none => .error .cannotIsolate
      | some formed =>
        match w.orderSlot with
        | none => .error .tableFull
        | some slot =>
          .ok (w.propose p slot (if call = 0 then none else some call) target (count == 0) override
            formed)

/-! ### Figures and replies (R94, R97) -/

/-- The figures formed from a planned result (R94). -/
structure Figures where
  expectedOff   : List Nat
  newlyAffected : List Nat
  customerSum   : Nat
  priorityCut   : Bool
deriving DecidableEq, Repr

/-- The customers of the segments of a list. -/
def Picture.customersOf (pic : Picture) (ids : List Nat) : Nat :=
  ((pic.segments.filter (fun g => ids.contains g.id)).map (fun g => g.customers)).sum

/-- Figures from the planned unsupplied set and the last published unsupplied set (R58, R94). -/
def Picture.figures (pic : Picture) (plannedOff : List Nat) : Figures :=
  let newly := plannedOff.filter (fun i => pic.sweep.published.contains i)
  { expectedOff := plannedOff
    newlyAffected := newly
    customerSum := pic.customersOf newly
    priorityCut := pic.segments.any (fun g => newly.contains g.id && g.priority) }

/-- The region-cut mark: every region segment lies in the planned unsupplied set (R94). -/
def regionCut (region plannedOff : List Nat) : Bool := region.all (fun i => plannedOff.contains i)

/-- The reply fields that R94 lists, in its order, with the state byte: the form of a commit's reply too (R97). -/
def figuresPayload (slot ref : Nat) (stateByte : List Byte) (region : List Nat) (steps : List Step)
    (g : Figures) (number : Nat) (cut : Bool) : List Byte :=
  enc8 slot ++ enc16 ref ++ stateByte ++
  enc8 region.length ++ region.flatMap enc8 ++
  enc8 steps.length ++ steps.flatMap encStep ++
  enc16 g.expectedOff.length ++ enc16 g.newlyAffected.length ++
  enc24 g.customerSum ++ encFlag g.priorityCut ++ enc16 number ++ encFlag cut

/-- The payload of a proposal's DONE reply: the fields R94 lists, then the order's recorded override flag. R94 does not
list the flag and R166 has it read in the reply to the proposal; the model carries it last, in this reply alone (log
entry 33). -/
def proposalPayload (o : Order) (g : Figures) (number : Nat) (cut : Bool) : List Byte :=
  figuresPayload o.slot o.ref (enc8 o.state.code) o.region o.steps g number cut ++ encFlag o.override

/-- The planned result of a PROPOSE (R94, R166). -/
def Work.proposeResult (w : Work) (r : PlannedRequest) (plannedOff : List Nat) : Answer × Work :=
  match w.orderByRef? r.ref with
  | none => ((.wrongState, enc8 r.slot ++ enc16 r.ref ++ encOpt 1 enc8 none), w)
  | some o =>
    if o.state = .proposed then
      let g := w.figures plannedOff
      let w1 := (w.updOrder o.slot (fun x =>
        { x with
          expectedOff := g.expectedOff, newlyAffected := g.newlyAffected,
          customerSum := g.customerSum, priorityCut := g.priorityCut,
          figuresPending := false })).raise .orderState o.ref (some (.orderState .proposed none))
      ((.done, proposalPayload o g w.sweep.number (regionCut o.region plannedOff)), w1)
    else
      ((.wrongState, enc8 r.slot ++ enc16 r.ref ++ encOpt 1 enc8 (some o.state.code)), w)

/-! ### Commit (R96 to R99) -/

/-- COMMIT_ORDER's own checks (R96), then its effects. -/
def Work.takeCommit (w : Work) (reloading : Bool) (p : Port) (pl : List Byte) : Except Result Work :=
  match flagOf (u8 pl 2) with
  | none => .error .badValue
  | some override =>
    match w.orderByRef? (u16 pl 0) with
    | none => .error .noSuch
    | some o =>
      if o.state ≠ .proposed ∨ o.figuresPending = true ∨ o.commitInHand = true ∨ reloading = true then
        .error .wrongState
      else
        match w.formRegion o.automatic o.target
            (o.steps.map (fun t => { t with state := .waiting })) with
        | none => .error .cannotIsolate
        | some formed =>
          .ok ((w.updOrder o.slot (fun x => { x with commitInHand := true, expiry := none })).joinRequest
            ⟨p, .commit override formed.1 formed.2, o.slot, o.ref, formed.2.map (fun t => t.valve)⟩)

/-- The dispatch conditions of a commit on Port D (R164, R165): the linked call, the priority cut, the limit. -/
def Picture.dispatchCheck (pic : Picture) (present : Bool) (o : Order) (g : Figures) : Option Result :=
  let qualifies := match o.linkedCall with
    | none => false
    | some ref =>
      match pic.callByRef? ref with
      | none => false
      | some c => c.isOpen && c.effective == .a
  if !qualifies then some .notPermitted
  else if g.priorityCut then some .priorityCut
  else if (if present then pic.timing.e1 else pic.timing.e2) < g.customerSum then some .overLimit
  else none

/-- Checks 2 to 5 of a commit's result (R97). -/
def Picture.commitCheck (pic : Picture) (present : Bool) (o : Order) (p : Port) (override : Bool)
    (region : List Nat) (steps : List Step) (g : Figures) (plannedOff : List Nat) : Option Result :=
  if !regionCut region plannedOff then some .cannotIsolate
  else if steps.any (fun t =>
      match pic.valve? t.valve with | some v => v.holder.isSome | none => false) then
    some .valveHeld
  else
    match p with
    | .d => pic.dispatchCheck present o g
    | .s | .f =>
      if g.priorityCut && !o.override && !override then some .priorityCut else none

/-- A successful commit (R98): the record, the holds, EXECUTING with its notice, then the lowest rank. -/
def Work.commit (w : Work) (o : Order) (p : Port) (override : Bool) (region : List Nat)
    (steps : List Step) (g : Figures) : Work :=
  let w1 := w.updOrder o.slot (fun x =>
    { x with
      region := region, steps := steps.map (fun t => { t with state := .waiting }),
      expectedOff := g.expectedOff, newlyAffected := g.newlyAffected,
      customerSum := g.customerSum, priorityCut := g.priorityCut,
      override := x.override || (p == .s && override), commitInHand := false, expiry := none })
  let w2 := w1.forEach (steps.map (fun t => t.valve)) (Work.hold o.ref)
  let w3 : Work := { w2 with
    segments := w2.segments.map (fun s =>
      if g.expectedOff.contains s.id then { s with holders := putNat o.ref s.holders }
      else s) }
  (w3.enterOrderState o .executing none).progressClosing o.slot

/-- A commit refused at checks 2 to 5 (R99): the expiry is armed again, and expires at once if its moment has
come (log entry 20). -/
def Work.refuseCommit (w : Work) (o : Order) : Work :=
  let moment := o.proposed + w.timing.proposalLifetime
  let w1 := w.updOrder o.slot (fun x => { x with commitInHand := false, expiry := some moment })
  if moment ≤ w.now then w1.endOrder o .expired else w1

/-- The planned result of a COMMIT (R97). -/
def Work.commitResult (w : Work) (present : Bool) (r : PlannedRequest) (override : Bool)
    (region : List Nat) (steps : List Step) (plannedOff : List Nat) : Answer × Work :=
  let g := w.figures plannedOff
  let cut := regionCut region plannedOff
  match w.orderByRef? r.ref with
  | none =>
    ((.wrongState, figuresPayload r.slot r.ref [Config.goneOrderState r.ref] region steps g
      w.sweep.number cut), w)
  | some o =>
    if o.state ≠ .proposed then
      ((.wrongState, figuresPayload o.slot o.ref (enc8 o.state.code) region steps g w.sweep.number
        cut), w)
    else
      match w.commitCheck present o r.port override region steps g plannedOff with
      | some code =>
        ((code, figuresPayload o.slot o.ref (enc8 o.state.code) region steps g w.sweep.number cut),
          w.refuseCommit o)
      | none =>
        let w1 := w.commit o r.port override region steps g
        let after := (w1.order? o.slot).getD o
        ((.done, figuresPayload after.slot after.ref (enc8 after.state.code) after.region after.steps
          g w.sweep.number cut), w1)

/-- The completion of a planned sweep hands its result to its order operation (R57, R94, R97). -/
def Work.plannedResult (w : Work) (present : Bool) (r : PlannedRequest) (plannedOff : List Nat) :
    Answer × Work :=
  match r.op with
  | .propose => w.proposeResult r plannedOff
  | .commit override region steps => w.commitResult present r override region steps plannedOff

/-- A void result (R61, R115): a proposal's order that is still PROPOSED becomes CANCELLED; the request is answered
WRONG_STATE. R115 speaks of proposals alone; the order of a commit has ended, or is gone, and is left as it stands (DESIGN
CHOICE, log entry 19). -/
def Work.voidResult (w : Work) (r : PlannedRequest) : Work :=
  match r.op with
  | .propose =>
    match w.orderByRef? r.ref with
    | none => w
    | some o => if o.state = .proposed then w.endOrder o .cancelled else w
  | .commit _ _ _ => w

/-! ### Publications (R102, R103, R106, R108, R109) -/

/-- The decay list of an order (R103): channels with a vent level other than 0, region segments in ascending
id, each segment's channels in the order of R12. -/
def Picture.decayListOf (pic : Picture) (region : List Nat) : List DecayEntry :=
  region.flatMap (fun i =>
    ((pic.channelsOf i).filter (fun c => c.vent != 0)).map (fun c => ⟨c.unit, c.index, false⟩))

/-- One order's reaction to a publication. -/
def Work.orderPublication (slot : Nat) (w : Work) : Work :=
  match w.order? slot with
  | none => w
  | some o =>
    let off := o.region.all (fun i => !w.sweep.published.contains i)
    match o.state with
    | .executing =>
      if o.decayDeadline.isSome then
        if off then w
        else w.updOrder slot (fun x => { x with decayDeadline := none, decayList := [] })
      else if o.chainComplete && off then
        if (w.decayListOf o.region).isEmpty then w.isolate o .unconfirmed
        else w.updOrder slot (fun x =>
          { x with
            decayDeadline := some (w.now + w.timing.decayWindow)
            decayList := w.decayListOf o.region })
      else w
    | .isolated | .letby =>
      match o.region.find? (fun i => w.sweep.published.contains i) with
      | none => w
      | some i =>
        (w.raise .breach o.ref (some (.breachSegment i))).enterOrderState o .breached none
    | .breached =>
      if o.steps.all (fun t => t.state == .confirmed) && off then w.isolate o .unconfirmed else w
    | .proposed | .restoring | .done | .cancelled | .expired => w

/-- The order engine's reaction to a publication (R56). No rule orders the orders among themselves (R102, R103, R108, R109):
they react, and raise their notices, in ascending slot (DESIGN CHOICE, log entry 22). -/
def Work.ordersTakePublication (w : Work) : Work :=
  w.forEach (w.orders.map (fun o => o.slot)) Work.orderPublication

/-! ### Verification (R104, R105) -/

/-- A reading offered to one order in its decay window (R104). -/
def Work.decayReading (unit index f vent slot : Nat) (w : Work) : Work :=
  match w.order? slot with
  | none => w
  | some o =>
    if o.decayDeadline.isSome && o.decayList.any (fun e => e.unit == unit && e.index == index) &&
        decide (f ≤ vent) then
      let list := o.decayList.map (fun e =>
        if e.unit == unit && e.index == index then { e with met := true } else e)
      if list.all (fun e => e.met) then w.isolate o .verified
      else w.updOrder slot (fun x => { x with decayList := list })
    else w

/-- An update of a channel with a vent level other than 0 is offered to the order engine (R39). No rule orders the orders
that list one channel (R104): they take it, and raise ORDER_STATE, in ascending slot (DESIGN CHOICE, log entry 22). -/
def Work.offerReading (w : Work) (unit index f vent : Nat) : Work :=
  if vent = 0 then w
  else w.forEach (w.orders.map (fun o => o.slot)) (Work.decayReading unit index f vent)

/-- A reading fresh in the window: the channel is fresh and was updated at or after the window's start
(R103). -/
def Picture.freshInWindow (pic : Picture) (start : Nat) (e : DecayEntry) : Bool :=
  match pic.channel? e.unit e.index with
  | none => false
  | some c => c.fresh && (match c.updated with | some t => decide (start ≤ t) | none => false)

/-- The decay deadline of an order is reached (R105). LETBY carries the first unmet channel with a reading
fresh in the window (R114, log entry 21). -/
def Work.decayExpiry (w : Work) (o : Order) (deadline : Nat) : Work :=
  let start := deadline - w.timing.decayWindow
  match o.decayList.find? (fun e => !e.met && w.freshInWindow start e) with
  | some e =>
    ((w.updOrder o.slot (fun x => { x with decayDeadline := none, decayList := [] })).raise .letby
      o.ref (some (.channel (channelIndex e.unit e.index)))).enterOrderState o .letby none
  | none => w.isolate o .unconfirmed

/-! ### Restoration and cancellation (R109, R113) -/

/-- Some region segment has an unsafe class-A count above 0 (R109, R113). -/
def Picture.regionUnsafe (pic : Picture) (region : List Nat) : Bool :=
  region.any (fun i => decide (0 < pic.countAt (.segment i)))

/-- Withdraw the CLOSE in hand of each step that a test picks (R109, R113); neither rule asks for the answers, or orders
the steps: they are taken in chain order (DESIGN CHOICE, log entry 22). -/
def Work.withdrawSteps (w : Work) (steps : List Step) (pick : Step → Bool) : Work :=
  w.forEach ((steps.filter pick).map (fun t => t.valve)) (fun i acc => (acc.withdraw i .close).2)

/-- BEGIN_RESTORE (R109). -/
def Work.takeBeginRestore (w : Work) (pl : List Byte) : Answer × Work :=
  match w.orderByRef? (u16 pl 0) with
  | none => ((.noSuch, []), w)
  | some o =>
    if ¬ (o.state = .isolated ∨ o.state = .letby ∨ o.state = .breached) then ((.wrongState, []), w)
    else if w.regionUnsafe o.region then ((.callOpen, []), w)
    else
      let w1 := w.withdrawSteps o.steps (fun t => t.state == .issued)
      ((.done, []), (w1.enterOrderState o .restoring none).beginReopening o.slot)

/-- Does a step of an EXECUTING order need reopening (R113): CONFIRMED, FAILED, or ISSUED for a REMOTE valve
in travel? -/
def Picture.needsReopening (pic : Picture) (t : Step) : Bool :=
  t.state == .confirmed || t.state == .failed ||
    (t.state == .issued &&
      (match pic.valve? t.valve with
       | some v => v.kind == .remote && v.window.isSome
       | none => false))

/-- The cancellation of an EXECUTING order (R113, steps 1 to 4). -/
def Work.cancelExecuting (w : Work) (o : Order) : Work :=
  let keep := o.steps.filter (fun t => w.needsReopening t)
  let drop := o.steps.filter (fun t => !w.needsReopening t)
  let w1 := w.updOrder o.slot (fun x => { x with decayDeadline := none, decayList := [] })
  let w2 := w1.withdrawSteps drop (fun t => t.state == .issued)
  if keep.isEmpty then w2.endOrder o .cancelled
  else
    let w3 := w2.forEach (drop.map (fun t => t.valve)) (Work.release o.ref)
    let w4 := w3.updOrder o.slot (fun x => { x with steps := keep, cancelling := true })
    (w4.enterOrderState o .restoring none).beginReopening o.slot

/-- CANCEL_ORDER (R113). -/
def Work.takeCancel (w : Work) (p : Port) (pl : List Byte) : Answer × Work :=
  match w.orderByRef? (u16 pl 0) with
  | none => ((.noSuch, []), w)
  | some o =>
    if p = .d ∧ o.origin = .s then ((.notPermitted, []), w)
    else
      match o.state with
      | .proposed => ((.done, []), w.endOrder o .cancelled)
      | .executing =>
        if (o.steps.any (fun t => w.needsReopening t)) && w.regionUnsafe o.region then
          ((.callOpen, []), w)
        else ((.done, []), w.cancelExecuting o)
      | _ => ((.wrongState, []), w)

/-- Cancel every order still PROPOSED, in ascending slot (R115). -/
def Work.cancelProposals (w : Work) : Work :=
  w.forEach (w.orders.map (fun o => o.slot)) (fun k acc =>
    match acc.order? k with
    | none => acc
    | some o => if o.state = .proposed then acc.endOrder o .cancelled else acc)

end Sys2Proof.Machine
end

