-- ==== Sys2Proof/Machine/Calls.lean ====
section
/-! DEFINITION. The call register (06): logging and merging, corroboration, the dispatch queue, progress,
deadlines and escalation, and the counts behind the OPEN interlock. -/

namespace Sys2Proof.Machine

/-! ### Classes and intervals -/

/-- Classes in order, A highest (R116). -/
def CallClass.rank : CallClass → Nat
  | .a => 0 | .b => 1 | .c => 2

/-- The higher of two classes. -/
def CallClass.higher (x y : CallClass) : CallClass := if x.rank ≤ y.rank then x else y

/-- A class raised by one step (R123). -/
def CallClass.raised : CallClass → CallClass
  | .a => .a | .b => .a | .c => .b

/-- Attend interval of a class (R118). -/
def Timing.attend (t : Timing) : CallClass → Nat
  | .a => t.attendA | .b => t.attendB | .c => t.attendC

/-- On-site interval of a class (R118). -/
def Timing.onSite (t : Timing) : CallClass → Nat
  | .a => t.onSiteA | .b => t.onSiteB | .c => t.onSiteC

/-- The candidate class of an evaluation (R123). -/
def candidateClass (reported : CallClass) (corroborates : Bool) : CallClass :=
  if corroborates then reported.raised else reported

/-- Does the segment of a call corroborate (R122)? -/
def Picture.corroborates (pic : Picture) (segment : Nat) : Bool :=
  match pic.segment? segment with
  | none => false
  | some g => g.corroborates

/-! ### The dispatch queue (R126) -/

/-- Does one NEW call stand before another: class, level, first report time, reference (R126)? -/
def Call.before (x y : Call) : Bool :=
  if x.effective.rank ≠ y.effective.rank then decide (x.effective.rank < y.effective.rank)
  else if x.level ≠ y.level then decide (y.level < x.level)
  else if x.first ≠ y.first then decide (x.first < y.first)
  else decide (x.ref < y.ref)

/-- Insert a call at its place in the dispatch queue. -/
def queueInsert (c : Call) : List Call → List Call
  | [] => [c]
  | y :: ys => if c.before y then c :: y :: ys else y :: queueInsert c ys

/-- The dispatch queue: exactly the calls in NEW, in order (R126). -/
def Picture.dispatchQueue (pic : Picture) : List Call :=
  (pic.calls.filter (fun c => c.state == .new)).foldr queueInsert []

/-! ### Counts (R132, R134) -/

/-- A segment's count increases by 1, and a rise from 0 is announced to the valve block (R132, R134). -/
def Work.countUp (w : Work) (segment : Nat) : Work :=
  match w.segment? segment with
  | none => w
  | some g =>
    let w1 := w.updSegment segment (fun x => { x with unsafeA := x.unsafeA + 1 })
    if g.unsafeA = 0 then w1.announceRise segment else w1

/-- A segment's count decreases by 1, and a fall to 0 is announced to the valve block (R132, R134). -/
def Work.countDown (w : Work) (segment : Nat) : Work :=
  match w.segment? segment with
  | none => w
  | some g =>
    let w1 := w.updSegment segment (fun x => { x with unsafeA := x.unsafeA - 1 })
    if g.unsafeA = 1 then w1.announceFall segment else w1

/-! ### Expiry and raise (R131, R124) -/

/-- The expiry of a call's deadline: level, new deadline, CALL_OVERDUE (R131). -/
def Work.expireCall (w : Work) (c : Call) : Work :=
  let level := min (c.level + 1) 3
  (w.updCall c.slot (fun x =>
    { x with level := level, deadline := some (w.now + w.timing.escalation) })).raise .callOverdue
      c.ref (some (.level level))

/-- A deadline formed at or before now expires at once (R130). -/
def Work.expireIfDue (w : Work) (slot : Nat) : Work :=
  match w.call? slot with
  | none => w
  | some c =>
    match c.deadline with
    | none => w
    | some t => if t ≤ w.now then w.expireCall c else w

/-- The deadline a class raise forms (R124, step 2). -/
def raisedDeadline (t : Timing) (c : Call) (cls : CallClass) : Option Nat :=
  match c.state, c.deadline with
  | .new, some d => some (min d (c.first + t.attend cls))
  | .assigned, some d => some (min d (c.first + t.onSite cls))
  | _, d => d

/-- Evaluate a call with a reported class (R123): the corroborated flag, the effective class, and, when it has
risen, the effects of R124 in their order. `c` is the call as it stands. -/
def Work.evaluate (w : Work) (c : Call) (reported : CallClass) : Work :=
  let corr := w.corroborates c.segment
  let cls := c.effective.higher (candidateClass reported corr)
  let w1 := w.updCall c.slot (fun x =>
    { x with reported := reported, effective := cls, corroborated := x.corroborated || corr })
  if cls = c.effective then w1
  else
    let w2 := w1.updCall c.slot (fun x => { x with deadline := raisedDeadline w.timing c cls })
    let w3 := if c.isUnsafe && cls == .a then w2.countUp c.segment else w2
    let w4 := w3.raise .callRaised c.ref (some (.callClass cls))
    if c.state = .new ∨ c.state = .assigned then w4.expireIfDue c.slot else w4

/-- A segment's summary or FALLING flag has changed: every open call on it is evaluated in ascending slot
(R125). -/
def Work.summaryChanged (w : Work) (segment : Nat) : Work :=
  w.forEach ((w.calls.filter (fun c => c.segment == segment)).map (fun c => c.slot)) (fun k acc =>
    match acc.call? k with
    | none => acc
    | some c => if c.isOpen then acc.evaluate c c.reported else acc)

/-! ### Logging (R117, R119 to R121) -/

/-- The call a report merges into: on its segment, not yet made safe, last report within the merge window; the
lowest-numbered slot (R120). -/
def Picture.mergeTarget (pic : Picture) (segment : Nat) : Option Call :=
  pic.calls.find? (fun c => c.segment == segment && c.isUnsafe &&
    decide (pic.now - c.last ≤ pic.timing.mergeWindow))

/-- The slot of a new call: the lowest never used, else the one whose call was closed earliest (R117). -/
def Picture.callSlot (pic : Picture) : Option Nat :=
  match lowestFree (pic.calls.map (fun c => c.slot)) 128 with
  | some k => some k
  | none => pic.closedCalls.head?

/-- A merge (R120). -/
def Work.mergeCall (w : Work) (c : Call) (cls : CallClass) : Work :=
  (w.updCall c.slot (fun x => { x with merged := min (x.merged + 1) 255, last := w.now })).evaluate c
    (c.reported.higher cls)

/-- The record of a new call (R121). -/
def newCall (slot ref segment : Nat) (reported effective : CallClass) (corroborated : Bool)
    (now deadline : Nat) : Call :=
  { slot := slot, ref := ref, segment := segment, reported := reported, effective := effective,
    corroborated := corroborated, first := now, last := now, merged := 1, state := .new,
    crew := none, level := 0, deadline := some deadline, links := [] }

/-- A new call (R121): the record, the count with its announcement, then CALL_NEW. Its reference is the next in turn
(R117), even where an older record still carries the same number (DESIGN CHOICE, log entry 36). -/
def Work.makeCall (w : Work) (slot segment : Nat) (cls : CallClass) : Answer × Work :=
  let corr := w.corroborates segment
  let eff := candidateClass cls corr
  let c := newCall slot w.nextCallRef segment cls eff corr w.now (w.now + w.timing.attend eff)
  let w1 : Work := { w with
    calls := putBy Call.slot c w.calls
    nextCallRef := nextRef w.nextCallRef
    closedCalls := w.closedCalls.filter (· != slot) }
  let w2 := if eff = .a then w1.countUp segment else w1
  ((.done, enc8 slot ++ enc16 c.ref ++ enc8 eff.code ++ encFlag corr),
    w2.raise .callNew c.ref (some (.callClass eff)))

/-- LOG_CALL (R119). -/
def Work.takeLogCall (w : Work) (reloading : Bool) (pl : List Byte) : Answer × Work :=
  let segment := u8 pl 0
  match CallClass.ofCode (u8 pl 1) with
  | none => ((.badValue, []), w)
  | some cls =>
    if (w.segment? segment).isNone then ((.noSuch, []), w)
    else if reloading then ((.wrongState, []), w)
    else
      match w.mergeTarget segment with
      | some c => ((.doneMerged, enc16 c.ref), w.mergeCall c cls)
      | none =>
        match w.callSlot with
        | none => ((.tableFull, []), w)
        | some slot => w.makeCall slot segment cls

/-! ### Progress (R127 to R129) -/

/-- NEXT_CALL's reply (R127; log entry 16 for the empty mark). The deadline, which every call in NEW has, is carried as
a time of 4 bytes without the presence byte of an optional field (DESIGN CHOICE, log entry 35). -/
def Picture.nextCallPayload (pic : Picture) : List Byte :=
  match pic.dispatchQueue with
  | [] => enc8 1 ++ enc8 0
  | c :: rest =>
    enc8 c.slot ++ enc16 c.ref ++ enc8 c.segment ++ enc8 c.reported.code ++ enc8 c.effective.code ++
    encFlag c.corroborated ++ enc8 c.level ++ encTime c.first ++ encTime c.last ++ enc8 c.merged ++
    encTime (c.deadline.getD 0) ++ enc8 (rest.length + 1)

/-- ASSIGN_CALL (R128). -/
def Work.takeAssign (w : Work) (pl : List Byte) : Answer × Work :=
  let ref := u16 pl 0
  let crew := u16 pl 2
  if ref = 0 ∨ crew = 0 ∨ 4095 < crew then ((.badValue, []), w)
  else
    match w.callByRef? ref with
    | none => ((.noSuch, []), w)
    | some c =>
      if c.state ≠ .new then ((.wrongState, []), w)
      else
        ((.done, []), (w.updCall c.slot (fun x =>
          { x with
            state := .assigned, crew := some crew,
            deadline := some (c.first + w.timing.onSite c.effective) })).expireIfDue c.slot)

/-- The changes CALL_PROGRESS may make (R129). -/
def progressAllowed (from0 target : CallState) : Bool :=
  match from0, target with
  | .assigned, .onSite => true
  | .assigned, .madeSafe => true
  | .onSite, .madeSafe => true
  | .new, .closed => true
  | .madeSafe, .closed => true
  | _, _ => false

/-- The target state a CALL_PROGRESS may name (R129). -/
def progressTarget : Nat → Option CallState
  | 3 => some .onSite | 4 => some .madeSafe | 5 => some .closed | _ => none

/-- The effects of a CALL_PROGRESS that passes (R129): the state, the deadline, the order of closing, then the
count with its announcement. -/
def Work.progressCall (w : Work) (c : Call) (target : CallState) : Work :=
  let w1 := w.updCall c.slot (fun x => { x with state := target, deadline := none })
  let w2 : Work := if target = .closed then
      { w1 with closedCalls := w1.closedCalls.filter (· != c.slot) ++ [c.slot] } else w1
  let leaves := (target == .madeSafe) || (target == .closed && c.state == .new)
  if leaves && c.effective == .a then w2.countDown c.segment else w2

/-- CALL_PROGRESS (R129). -/
def Work.takeProgress (w : Work) (pl : List Byte) : Answer × Work :=
  let ref := u16 pl 0
  match progressTarget (u8 pl 2) with
  | none => ((.badValue, []), w)
  | some target =>
    if ref = 0 then ((.badValue, []), w)
    else
      match w.callByRef? ref with
      | none => ((.noSuch, []), w)
      | some c =>
        if progressAllowed c.state target then ((.done, []), w.progressCall c target)
        else ((.wrongState, []), w)

end Sys2Proof.Machine
end

