-- ==== Sys2Proof/Machine/Pressure.lean ====
section
/-! DEFINITION. The pressure monitor (02): unit reports, channel updates, watches, summaries, suppression and
the pressure notices. -/

namespace Sys2Proof.Machine

/-- Raise a pressure-state notice of a channel with F as its detail (R44). -/
def Work.raiseChannel (w : Work) (kind : NoticeKind) (c : Channel) (f : Nat) : Work :=
  w.raise kind (channelIndex c.unit c.index) (some (.pressure f))

/-- The state notice of an update, and its low-alarm pending flag (R40, R41, R43): the notice kind, if one is
raised, and the flag after. -/
def stateNotice (c : Channel) (new : ChannelState) (suppressed : Bool) : Option NoticeKind × Bool :=
  match new with
  | .low =>
    if c.state = .low then (none, c.lowPending)
    else if suppressed then (none, true) else (some .pressureLow, false)
  | .high => (if c.state = .high then none else some .pressureHigh, false)
  | .normal =>
    match c.state with
    | .low => (if c.lowPending then none else some .pressureNormal, false)
    | .high => (some .pressureNormal, false)
    | .normal | .unknown | .fault | .stale => (none, false)
  | .unknown | .fault | .stale => (none, false)

/-- The channel record after an update with a raw count (R30 to R36); the low-alarm flag is written apart. -/
def Channel.updated1 (c : Channel) (r now : Nat) : Channel :=
  let p := convert r c.zero c.gain
  let seed := !c.fresh
  let old := c.f.getD 0
  let f := if seed then p else filterStep c.shift old p
  { c with
    raw := some r, p := some p, f := some f,
    underRange := underFlag r c.zero, overRange := overFlag r c.zero c.gain,
    state := if seed then enterLimits c f else limitState c f,
    falling := fallingFlag c seed old f,
    updated := some now }

/-- An update of a channel (R30): the record, the state notice, RAPID_FALL, and the reading offered to the order
engine, in the order of R23. -/
def Work.updateChannel (w : Work) (c : Channel) (r : Nat) : Work :=
  let suppressed := match w.segment? c.segment with | some g => g.suppressed | none => false
  let new := c.updated1 r w.now
  let note := stateNotice c new.state suppressed
  let f := new.f.getD 0
  let w1 := w.updChannel c.unit c.index (fun x => { x.updated1 r w.now with lowPending := note.2 })
  let w2 := match note.1 with | some kind => w1.raiseChannel kind c f | none => w1
  let w3 := if new.falling && !c.falling then w2.raiseChannel .rapidFall c (c.f.getD 0 - f) else w2
  w3.offerReading c.unit c.index f c.vent

/-- A sensor fault (R29). -/
def Work.faultChannel (w : Work) (c : Channel) : Work :=
  if c.state = .fault then w
  else
    (w.updChannel c.unit c.index (fun x => { x with state := .fault, lowPending := false })).raise
      .channelFault (channelIndex c.unit c.index) (c.f.map Detail.pressure)

/-- Recompute one segment's summary and FALLING flag, and pass a change to the call register (R37, R38). -/
def Work.recompute (segment : Nat) (w : Work) : Work :=
  match w.segment? segment with
  | none => w
  | some g =>
    let chs := w.channelsOf segment
    if g.summary = summaryOf chs ∧ g.falling = fallingOf chs then w
    else
      (w.updSegment segment (fun x =>
        { x with summary := summaryOf chs, falling := fallingOf chs })).summaryChanged segment

/-- The segments that a unit's channels measure, in ascending id. -/
def Picture.segmentsOfUnit (pic : Picture) (unit : Nat) : List Nat :=
  (pic.channels.filter (fun c => c.unit == unit)).foldl (fun acc c => putNat c.segment acc) []

/-- Recompute the summaries of a unit's segments (R23 step 4, R27). -/
def Work.recomputeUnit (w : Work) (unit : Nat) : Work :=
  w.forEach (w.segmentsOfUnit unit) Work.recompute

/-- One channel of a reporting unit, as the report's fault flag and count decide (R24). -/
def Work.reportChannel (unit flags n : Nat) (pl : List Byte) (i : Nat) (w : Work) : Work :=
  match w.channel? unit i with
  | none => w
  | some c =>
    if flags / 2 ^ i % 2 = 1 then w.faultChannel c
    else if i < n then w.updateChannel c (u16 pl (4 + 2 * i))
    else w

/-- A UNIT_REPORT delivered by Port F (R23 to R26): discarded, or taken in the four parts of R23. -/
def Work.takeUnitReport (w : Work) (pl : List Byte) : Work :=
  let id := u8 pl 0
  let n := u8 pl 3
  if n < 1 ∨ 4 < n then w
  else
    match w.unit? id with
    | none => w
    | some u =>
      let tripped := u8 pl 1 != 0
      let w1 := w.updUnit id (fun x =>
        { x with
          watch := .fresh, deadline := w.now + u.timeout, tripped := tripped,
          lastReport := some w.now })
      let w2 := if u.watch = .fresh then w1
        else w1.raise .unitFresh id (some (.watchLeft u.watch))
      let w3 := match tripped, u.source with
        | true, some sid => w2.trip sid
        | _, _ => w2
      let w4 := w3.forEach (List.range u.channelCount) (Work.reportChannel id (u8 pl 2) n pl)
      w4.recomputeUnit id

/-- The expiry of a unit's watch (R27). -/
def Work.expireWatch (w : Work) (u : FieldUnit) : Work :=
  let placed := match w.model with | some m => m.placedAt | none => 0
  let w1 := w.updUnit u.id (fun x => { x with watch := .stale })
  let w2 : Work := { w1 with
    channels := w1.channels.map (fun c =>
      if c.unit == u.id then
        { c with state := .stale, lowPending := if c.state = .low then false else c.lowPending }
      else c) }
  (w2.raise .unitStale u.id (some (.time (u.lastReport.getD placed)))).recomputeUnit u.id

/-! ### The end of suppression (R42) -/

/-- Notify one channel whose segment's suppression has ended: PRESSURE_LOW if it is LOW with its flag set, and
the flag is cleared (R42). -/
def Work.notifyLow (w : Work) (c : Channel) : Work :=
  if c.state = .low ∧ c.lowPending = true then
    (w.updChannel c.unit c.index (fun x => { x with lowPending := false })).raiseChannel .pressureLow c
      (c.f.getD 0)
  else w

/-- A segment before and after an event: did the event end its suppression (R42)? -/
def suppressionEnded (before after : Segment) : Bool :=
  before.id == after.id && before.suppressed && !after.suppressed

/-- The end of suppression, judged on each segment's condition before and after the event (R42, R56). R42 orders the
channels of one segment; where one event ends the suppression of several, they are taken in ascending id (DESIGN
CHOICE, log entry 22). -/
def Work.endSuppression (w : Work) (before : Picture) : Work :=
  (before.segments.zip w.segments).foldl (fun acc pair =>
    if suppressionEnded pair.1 pair.2 then
      (acc.channelsOf pair.2.id).foldl (fun a c => a.notifyLow c) acc
    else acc) w

end Sys2Proof.Machine
end

