-- ==== Sys2Proof/Machine/Outages.lean ====
section
/-! DEFINITION. Outage accounting (07): supply states, outage records and their attribution, crew reports,
figures, totals and notices; and the publication that drives it (03: R55, R56). -/

namespace Sys2Proof.Machine

/-! ### Figures and record states (R151, R152) -/

/-- The members of an outage: the segments whose outage field names its reference (R146). -/
def Picture.membersOf (pic : Picture) (ref : Nat) : List Segment :=
  pic.segments.filter (fun g => g.outage == some ref)

/-- State of a record from its members (R151). -/
def outageStateOf (ms : List Segment) : OutageState :=
  if ms.any (fun g => g.supply == .off) then .active
  else if ms.any (fun g => g.supply == .purge || g.supply == .relight) then .restoring
  else .closed

/-- Customers off: members in OFF or PURGE (R152). -/
def offOf (ms : List Segment) : Nat :=
  ((ms.filter (fun g => g.supply == .off || g.supply == .purge)).map (fun g => g.customers)).sum

/-- Awaiting relight: members in RELIGHT, customers less relit count (R152). -/
def awaitingOf (ms : List Segment) : Nat :=
  ((ms.filter (fun g => g.supply == .relight)).map (fun g => g.customers - g.relit)).sum

/-- An open record formed afresh from its members (R151, R152; log entry 24). -/
def Picture.reformOutage (pic : Picture) (o : Outage) : Outage :=
  if o.isOpen then
    let ms := pic.membersOf o.ref
    { o with state := outageStateOf ms, off := offOf ms, awaiting := awaitingOf ms }
  else o

/-- Form the open records and the network totals afresh; records that become CLOSED take the next places in the
order of closing, in ascending id (R151, R152). -/
def Work.reform (w : Work) : Work :=
  let recs := w.outages.map w.toPicture.reformOutage
  let closing := (recs.filter (fun o => o.state == .closed &&
    (match w.outage? o.id with | some old => old.isOpen | none => false))).map (fun o => o.id)
  { w with
    outages := recs
    closedOutages := w.closedOutages ++ closing
    customersOff := ((recs.filter Outage.isOpen).map (fun o => o.off)).sum
    awaitingRelight := ((recs.filter Outage.isOpen).map (fun o => o.awaiting)).sum }

/-! ### Attribution (R145, R148 to R150) -/

/-- The order that owns a segment going off: the lowest slot in EXECUTING, ISOLATED, LETBY or BREACHED whose
expected-off set contains it (R148). -/
def owningOrder (orders : List Order) (segment : Nat) : Option Order :=
  orders.find? (fun o =>
    (o.state == .executing || o.state == .isolated || o.state == .letby || o.state == .breached) &&
      o.expectedOff.contains segment)

/-- The cause of a segment taken from LIVE to OFF (R148). -/
def causeOf (orders : List Order) (segment : Nat) : Cause :=
  match owningOrder orders segment with
  | some o => .order o.ref
  | none => .unplanned

/-- The record of a new outage: the lowest never used, else the one closed earliest (R145). -/
def Picture.outageSlot (pic : Picture) : Option Nat :=
  match lowestFree (pic.outages.map (fun o => o.id)) 32 with
  | some k => some k
  | none => pic.closedOutages.head?

/-- A group of segments joins a record: each becomes a member, and is appended to the member list unless it
stands there (R146, R149). -/
def Work.joinOutage (w : Work) (o : Outage) (ids : List Nat) : Work :=
  let joined : Work := { w with
    segments := w.segments.map (fun g => if ids.contains g.id then { g with outage := some o.ref } else g) }
  joined.updOutage o.id (fun x =>
    { x with members := x.members ++ ids.filter (fun i => !x.members.contains i) })

/-- Open a record for a group (R145): cause, sources OUT as the event finds them, now, and the members. -/
def Work.openOutage (w : Work) (slot : Nat) (cause : Cause) (ids : List Nat) : Work :=
  let o : Outage :=
    { id := slot, ref := w.nextOutageRef, cause := cause,
      sourcesOut := (w.sources.filter (fun q => q.state == .out)).map (fun q => q.id),
      opened := w.now, members := [], off := 0, awaiting := 0, state := .active }
  let opened : Work := { w with
    outages := putBy Outage.id o w.outages
    nextOutageRef := nextRef w.nextOutageRef
    openedOutages := w.openedOutages.filter (· != slot) ++ [slot]
    closedOutages := w.closedOutages.filter (· != slot) }
  opened.joinOutage o ids

/-- The cause of a record that a group overflows into (R150). -/
def overflowCause (old group : Cause) : Cause :=
  if old = .unplanned ∧ group = .unplanned then .unplanned else .mixed

/-- The open record that was opened most recently (R150). -/
def Picture.latestOpen (pic : Picture) : Option Outage :=
  pic.openedOutages.reverse.findSome? (fun k =>
    match pic.outage? k with
    | some o => if o.isOpen then some o else none
    | none => none)

/-- A group that needs a new record opens one, or overflows into the record opened most recently (R145,
R150). -/
def Work.placeNew (w : Work) (cause : Cause) (ids : List Nat) : Work :=
  match w.outageSlot with
  | some slot => w.openOutage slot cause ids
  | none =>
    match w.latestOpen with
    | none => w
    | some o =>
      (w.joinOutage o ids).updOutage o.id (fun x => { x with cause := overflowCause x.cause cause })

/-- Place one group (R149): an ORDER group joins the open outage of its order, if there is one. -/
def Work.placeGroup (w : Work) (cause : Cause) (ids : List Nat) : Work :=
  if ids.isEmpty then w
  else
    match cause with
    | .order _ =>
      match w.outages.find? (fun o => o.isOpen && o.cause == cause) with
      | some o => w.joinOutage o ids
      | none => w.placeNew cause ids
    | .unplanned | .mixed => w.placeNew cause ids

/-- Attribution: the ORDER groups in ascending slot of their order, then the UNPLANNED group (R149). -/
def Work.attribute (w : Work) (orders : List Order) (ids : List Nat) : Work :=
  let ordered := orders.foldl (fun acc o =>
    acc.placeGroup (.order o.ref) (ids.filter (fun i =>
      match owningOrder orders i with | some x => x.slot == o.slot | none => false))) w
  ordered.placeGroup .unplanned (ids.filter (fun i => (owningOrder orders i).isNone))

/-! ### Outage notices (R153) -/

/-- The record as it stood before an event, unless the event has opened it. A record that has closed never opens again
(R149), so an open record in the place of none, or of a CLOSED one, is new, whatever its reference. -/
def Picture.recordBefore (before : Picture) (o : Outage) : Option Outage :=
  (before.outage? o.id).filter (fun x => x.isOpen || !o.isOpen)

/-- The notice of one record for an event, from the record before it and whether its members are the same (R153). -/
def outageNotice (old : Option Outage) (sameMembers : Bool) (o : Outage) : Option Raise :=
  match old with
  | none => some ⟨.outageOpened, o.ref, some (.outageOpened o.cause o.off)⟩
  | some x =>
    if o.state = .closed ∧ x.state ≠ .closed then
      some ⟨.outageClosed, o.ref, some (.members o.members.length)⟩
    else if x = o ∧ sameMembers = true then none
    else some ⟨.outageChanged, o.ref, some (.outageChanged o.state o.off o.awaiting)⟩

/-- Raise at most one notice for each record, in ascending id (R153). `overlooks` names the records in which a change of
membership alone raises nothing. -/
def Work.outageNotices (w : Work) (before : Picture) (overlooks : Outage → Bool) : Work :=
  { w with
    out := w.out ++ w.outages.filterMap (fun o =>
      outageNotice (before.recordBefore o)
        (overlooks o || (before.membersOf o.ref).map (fun g => g.id) == (w.membersOf o.ref).map (fun g => g.id))
        o) }

/-! ### Publications (R140, R141, R55, R56) -/

/-- A segment's supply state after a publication (R140). -/
def Segment.takePublication (published : List Nat) (g : Segment) : Segment :=
  if published.contains g.id then
    match g.supply with
    | .off => { g with supply := .purge }
    | .live | .purge | .relight => g
  else
    match g.supply with
    | .live => { g with supply := .off }
    | .off => g
    | .purge | .relight => { g with supply := .off, relit := 0 }

/-- The reaction of outage accounting to a publication (R141). -/
def Work.outagesTakePublication (w : Work) : Work :=
  let before := w.toPicture
  let lost := (w.segments.filter (fun g =>
    g.supply == .live && !w.sweep.published.contains g.id)).map (fun g => g.id)
  let moved : Work := { w with segments := w.segments.map (Segment.takePublication w.sweep.published) }
  ((moved.attribute w.orders lost).reform).outageNotices before (fun _ => false)

/-- The publication number after one more publication: from 65535 to 1 (R55). -/
def nextPublication (n : Nat) : Nat := if n = 65535 then 1 else n + 1

/-- Publish a supplied set and deliver it to its consumers (R55, R56). -/
def Work.publish (w : Work) (supplied : List Nat) : Work :=
  let published : Work := { w with
    sweep := { w.sweep with published := supplied, number := nextPublication w.sweep.number } }
  (published.outagesTakePublication).ordersTakePublication

/-! ### Crew reports (R142, R143) -/

/-- The effects of a PURGE_REPORT that passes (R142). A member with 0 customers whose record stays RESTORING raises no
notice, as R153 says of that case, although it leaves the record for LIVE (DESIGN CHOICE, log entry 40). -/
def Work.purge (w : Work) (g : Segment) : Work :=
  let before := w.toPicture
  let w1 := w.updSegment g.id (fun x =>
    if x.customers = 0 then { x with supply := .live, relit := 0, outage := none }
    else { x with supply := .relight, relit := 0 })
  w1.reform.outageNotices before (fun o => g.customers == 0 && o.state == .restoring)

/-- PURGE_REPORT (R142). -/
def Work.takePurge (w : Work) (pl : List Byte) : Answer × Work :=
  match w.segment? (u8 pl 0) with
  | none => ((.noSuch, []), w)
  | some g =>
    if g.supply ≠ .purge then ((.wrongState, []), w)
    else
      let after : Supply := if g.customers = 0 then .live else .relight
      ((.done, enc8 after.code ++ enc16 (g.outage.getD 0)), w.purge g)

/-- The effects of a RELIGHT_REPORT that passes (R143). -/
def Work.relight (w : Work) (g : Segment) (total : Nat) : Work :=
  let before := w.toPicture
  let w1 := w.updSegment g.id (fun x =>
    if total = g.customers then { x with supply := .live, relit := 0, outage := none }
    else { x with relit := total })
  w1.reform.outageNotices before (fun _ => false)

/-- RELIGHT_REPORT (R143). -/
def Work.takeRelight (w : Work) (pl : List Byte) : Answer × Work :=
  let count := u16 pl 1
  if count = 0 then ((.badValue, []), w)
  else
    match w.segment? (u8 pl 0) with
    | none => ((.noSuch, []), w)
    | some g =>
      if g.supply ≠ .relight then ((.wrongState, []), w)
      else
        let total := min (g.relit + count) g.customers
        let after : Supply := if total = g.customers then .live else .relight
        let result : Result := if g.customers < g.relit + count then .doneClamped else .done
        ((result, enc8 after.code ++ enc16 total ++ enc24 g.customers ++ enc16 (g.outage.getD 0)),
          w.relight g total)

/-! ### Model replacement (R156) -/

/-- Every record still open becomes CLOSED with figures 0, with OUTAGE_CLOSED, in ascending id; the totals are
0 (R156). -/
def Work.closeOutages (w : Work) : Work :=
  let closing := w.outages.filter Outage.isOpen
  { w with
    outages := w.outages.map (fun o =>
      if o.isOpen then { o with state := .closed, off := 0, awaiting := 0 } else o)
    closedOutages := w.closedOutages ++ closing.map (fun o => o.id)
    customersOff := 0
    awaitingRelight := 0
    out := w.out ++ closing.map (fun o =>
      ⟨.outageClosed, o.ref, some (.members o.members.length)⟩) }

end Sys2Proof.Machine
end

