-- ==== Sys2Proof/Machine/Image.lean ====
section
/-! DEFINITION. The model image, its validation and its placing in service (11: R197 to R199, R202). -/

namespace Sys2Proof.Machine

/-- A record of the image as walked: its tag, its address and its body (R197). -/
structure RawRecord where
  tag  : Nat
  addr : Nat
  body : List Byte
deriving DecidableEq, Repr

/-- Why an image fails, in code order (R198, R201). -/
inductive Reason where
  | format | crc | range | duplicate | ends | permit | limits | reference | channels | link | timing
  | orphan
deriving DecidableEq, Repr

/-- The reason's code in IMAGE_BAD (R201). -/
def Reason.code : Reason → Nat
  | .format => 1 | .crc => 2 | .range => 3 | .duplicate => 4 | .ends => 5 | .permit => 6
  | .limits => 7 | .reference => 8 | .channels => 9 | .link => 10 | .timing => 11 | .orphan => 12

/-! ### The walk (R198, check 1) -/

/-- Tags (R197). -/
def tagHdr : Nat := 0x01
def tagSeg : Nat := 0x02
def tagVlv : Nat := 0x03
def tagSrc : Nat := 0x04
def tagUnit : Nat := 0x05
def tagChan : Nat := 0x06
def tagPermit : Nat := 0x07
def tagTiming : Nat := 0x08
def tagEnd : Nat := 0x0F

/-- Is the length one that the tag has (R197, R198)? An unknown tag has none. -/
def lengthOfTag (tag len : Nat) : Bool :=
  match tag with
  | 0x01 => len == 19
  | 0x02 => len == 5
  | 0x03 => len == 12
  | 0x04 => len == 2
  | 0x05 => len == 5
  | 0x06 => len == 26
  | 0x07 => len == 3
  | 0x08 => len % 5 == 0 && decide (5 ≤ len) && decide (len ≤ 80)
  | 0x0F => len == 2
  | _ => false

/-- Does the record in this place pass the walk (R198): HDR first and only first, version 1, END exactly at
record number count − 1? -/
def placeFits (n count : Nat) (r : RawRecord) : Bool :=
  if n = 0 then r.tag == tagHdr && u8 r.body 0 == 1
  else r.tag != tagHdr && (r.tag != tagEnd || n + 1 == count)

/-- The record at an address, if it has a tag of R197 with its length and does not run past 0xFFFF. -/
def recordAt (m : List Host.Cell) (addr : Nat) : Option RawRecord :=
  if 65536 < addr + 2 then none
  else
    let tag := (flashRead m addr).toNat
    let len := (flashRead m (addr + 1)).toNat
    if lengthOfTag tag len && decide (addr + 2 + len ≤ 65536) then
      some ⟨tag, addr, flashSpan m (addr + 2) len⟩
    else none

/-- Walk the records from an address to END (R198, check 1); a failure is the failing record's number. A record
takes at least 4 bytes, so 16,384 rounds are enough. -/
def walk (m : List Host.Cell) : Nat → Nat → Nat → Nat → Except Nat (List RawRecord)
  | 0, _, n, _ => .error n
  | fuel + 1, addr, n, count =>
    match recordAt m addr with
    | none => .error n
    | some r =>
      let total := if n = 0 then u16 r.body 1 else count
      if placeFits n total r then
        if r.tag = tagEnd then .ok [r]
        else
          match walk m fuel (addr + 2 + r.body.length) (n + 1) total with
          | .error k => .error k
          | .ok rest => .ok (r :: rest)
      else .error n

/-! ### Records -/

def RawRecord.endOf (r : RawRecord) (i : Nat) : End :=
  if u8 r.body i = 1 then .segment (u8 r.body (i + 1)) else .source (u8 r.body (i + 1))

/-- A link byte: 0xFF for none (R197). -/
def linkOf (n : Nat) : Option Nat := if n = 0xFF then none else some n

/-- The items of a TIMING record: code and value (R197). -/
def RawRecord.items (r : RawRecord) : List (Nat × Nat) :=
  (List.range (r.body.length / 5)).map (fun k => (u8 r.body (5 * k), u32 r.body (5 * k + 1)))

/-- The range of a TIMING item (R197). -/
def timingItemFits (item : Nat × Nat) : Bool :=
  if 1 ≤ item.1 ∧ item.1 ≤ 10 then decide (1 ≤ item.2) && decide (item.2 ≤ 604800)
  else if item.1 = 11 then decide (5 ≤ item.2) && decide (item.2 ≤ 300)
  else if item.1 = 12 ∨ item.1 = 13 then decide (item.2 ≤ 16776960)
  else false

/-- A valve end's type and id lie in range (R4, R197). -/
def endFits (r : RawRecord) (i : Nat) : Bool :=
  u8 r.body i == 1 || (u8 r.body i == 2 && decide (u8 r.body (i + 1) ≤ 15))

/-- RANGE of one record (R198, check 3). -/
def RawRecord.rangeFits (r : RawRecord) : Bool :=
  match r.tag with
  | 0x02 => (Tier.ofCode (u8 r.body 1)).isSome && decide (u8 r.body 4 ≤ 1)
  | 0x03 =>
    decide (u16 r.body 0 ≤ 511) && endFits r 2 && endFits r 4 &&
    (match ValveKind.ofCode (u8 r.body 6) with
     | some .remote => decide (1 ≤ u16 r.body 7) && decide (u16 r.body 7 < u16 r.body 9) &&
        decide (u16 r.body 9 ≤ 600)
     | some .manual => u16 r.body 7 == 0 && u16 r.body 9 == 0
     | none => false) &&
    (u8 r.body 11 == 1 || u8 r.body 11 == 2)
  | 0x04 => decide (u8 r.body 0 ≤ 15) && (decide (u8 r.body 1 ≤ 63) || u8 r.body 1 == 0xFF)
  | 0x05 =>
    decide (u8 r.body 0 ≤ 63) &&
    (u16 r.body 1 == 0 || (decide (10 ≤ u16 r.body 1) && decide (u16 r.body 1 ≤ 3600))) &&
    decide (1 ≤ u8 r.body 3) && decide (u8 r.body 3 ≤ 4) &&
    (decide (u8 r.body 4 ≤ 15) || u8 r.body 4 == 0xFF)
  | 0x06 =>
    decide (u8 r.body 0 ≤ 63) && decide (u8 r.body 1 ≤ 3) && decide (1 ≤ u16 r.body 5) &&
    decide (u8 r.body 7 ≤ 4) && [8, 11, 14, 17, 20, 23].all (fun i => decide (u24 r.body i ≤ maxPressure))
  | 0x07 =>
    (RequestKind.ofCode (u8 r.body 0)).isSome && decide (u8 r.body 1 ≤ 1) && decide (u8 r.body 2 ≤ 1)
  | 0x08 => r.items.all timingItemFits
  | _ => true

/-- What a record defines, for DUPLICATE (R198): its tag with its id, channel, kind or items. -/
def RawRecord.keys (r : RawRecord) : List (Nat × Nat) :=
  match r.tag with
  | 0x02 | 0x04 | 0x05 | 0x07 => [(r.tag, u8 r.body 0)]
  | 0x03 => [(r.tag, u16 r.body 0)]
  | 0x06 => [(r.tag, channelIndex (u8 r.body 0) (u8 r.body 1))]
  | 0x08 => r.items.map (fun it => (r.tag, it.1))
  | _ => []

/-- No entry of a list stands in it twice, nor in another list. -/
def freshKeys (seen : List (Nat × Nat)) : List (Nat × Nat) → Bool
  | [] => true
  | k :: ks => !seen.contains k && freshKeys (k :: seen) ks

/-- ENDS (R198): the two ends are distinct, and at most one is a source. -/
def RawRecord.endsFit (r : RawRecord) : Bool :=
  if r.tag = tagVlv then
    r.endOf 2 != r.endOf 4 && !(u8 r.body 2 == 2 && u8 r.body 4 == 2)
  else true

/-- Is a kind grantable (R157)? -/
def grantable (k : RequestKind) : Bool := defaultGrants.any (fun g => g.kind == k && g.grantable)

/-- PERMIT (R198): the record names a grantable kind. -/
def RawRecord.permitFits (r : RawRecord) : Bool :=
  if r.tag = tagPermit then
    match RequestKind.ofCode (u8 r.body 0) with
    | some k => grantable k
    | none => false
  else true

/-- LoExit after the load-time clamp: raised to LoEnter when lower (R198). -/
def RawRecord.loExit (r : RawRecord) : Nat := max (u24 r.body 11) (u24 r.body 8)

/-- HiExit after the load-time clamp: lowered to HiEnter when higher (R198). -/
def RawRecord.hiExit (r : RawRecord) : Nat := min (u24 r.body 14) (u24 r.body 17)

/-- LIMITS (R198): after the clamps LoExit is less than HiExit. -/
def RawRecord.limitsFit (r : RawRecord) : Bool :=
  if r.tag = tagChan then decide (r.loExit < r.hiExit) else true

/-- The first of the per-record checks that a record fails (R198, check 3). -/
def perRecordFault (seen : List (Nat × Nat)) (r : RawRecord) : Option Reason :=
  if !r.rangeFits then some .range
  else if !freshKeys seen r.keys then some .duplicate
  else if !r.endsFit then some .ends
  else if !r.permitFits then some .permit
  else if !r.limitsFit then some .limits
  else none

/-- The per-record checks in record order (R198, check 3). -/
def perRecordFaults (seen : List (Nat × Nat)) (n : Nat) : List RawRecord → Option (Nat × Reason)
  | [] => none
  | r :: rs =>
    match perRecordFault seen r with
    | some why => some (n, why)
    | none => perRecordFaults (seen ++ r.keys) (n + 1) rs

/-! ### The model an image gives (R1 to R12, R197) -/

/-- The records, timing values and permissions of a good image. -/
structure Image where
  name     : List Byte
  version  : Nat
  segments : List Segment
  valves   : List Valve
  sources  : List Source
  units    : List FieldUnit
  channels : List Channel
  timing   : Timing
  permits  : List (RequestKind × Bool × Bool)
deriving DecidableEq, Repr

def withTag (recs : List RawRecord) (tag : Nat) : List RawRecord := recs.filter (fun r => r.tag == tag)

/-- A segment as placed in service (R2, R3). -/
def RawRecord.toSegment (r : RawRecord) (measured : Bool) : Segment :=
  { id := u8 r.body 0, tier := (Tier.ofCode (u8 r.body 1)).getD .ip, customers := u16 r.body 2,
    priority := u8 r.body 4 == 1, summary := if measured then .unknown else .noChannel,
    falling := false, supply := .live, relit := 0, outage := none, holders := [], unsafeA := 0 }

/-- A valve as placed in service (R4, R6, R63). -/
def RawRecord.toValve (r : RawRecord) (now : Nat) : Valve :=
  let kind := (ValveKind.ofCode (u8 r.body 6)).getD .manual
  { id := u16 r.body 0, endA := r.endOf 2, endB := r.endOf 4, kind := kind,
    travel := if kind = .remote then some (u16 r.body 7, u16 r.body 9) else none,
    normal := if u8 r.body 11 = 1 then .open_ else .closed,
    position := .unknown, operable := true, holder := none, pendingCmd := none, window := none,
    lastChange := now, prior := none, outstanding := none }

/-- A source as placed in service (R7). -/
def RawRecord.toSource (r : RawRecord) : Source :=
  { id := u8 r.body 0, unit := linkOf (u8 r.body 1), state := .live, cause := none }

/-- A field unit as placed in service (R9): a watch timeout of 0 gives 300. -/
def RawRecord.toUnit (r : RawRecord) (now : Nat) : FieldUnit :=
  let timeout := if u16 r.body 1 = 0 then 300 else u16 r.body 1
  { id := u8 r.body 0, timeout := timeout, channelCount := u8 r.body 3,
    source := linkOf (u8 r.body 4), watch := .silent, deadline := now + timeout, tripped := false,
    lastReport := none }

/-- A channel as placed in service (R10, R11), with its clamped limits (R198). -/
def RawRecord.toChannel (r : RawRecord) : Channel :=
  { unit := u8 r.body 0, index := u8 r.body 1, segment := u8 r.body 2, zero := u16 r.body 3,
    gain := u16 r.body 5, shift := u8 r.body 7, loEnter := u24 r.body 8, loExit := r.loExit,
    hiExit := r.hiExit, hiEnter := u24 r.body 17, fallLimit := u24 r.body 20, vent := u24 r.body 23,
    raw := none, p := none, f := none, state := .unknown, underRange := false, overRange := false,
    falling := false, updated := none, lowPending := false }

/-- One TIMING item comes into force (R197). -/
def Timing.setItem (t : Timing) (item : Nat × Nat) : Timing :=
  match item.1 with
  | 1 => { t with mergeWindow := item.2 }
  | 2 => { t with attendA := item.2 }
  | 3 => { t with attendB := item.2 }
  | 4 => { t with attendC := item.2 }
  | 5 => { t with onSiteA := item.2 }
  | 6 => { t with onSiteB := item.2 }
  | 7 => { t with onSiteC := item.2 }
  | 8 => { t with escalation := item.2 }
  | 9 => { t with decayWindow := item.2 }
  | 10 => { t with proposalLifetime := item.2 }
  | 11 => { t with presenceTimeout := item.2 }
  | 12 => { t with e1 := item.2 }
  | 13 => { t with e2 := item.2 }
  | _ => t

/-- The timing values of an image: its items over the defaults (R197). -/
def timingOf (recs : List RawRecord) : Timing :=
  ((withTag recs tagTiming).flatMap RawRecord.items).foldl Timing.setItem defaultTiming

/-- Put records into ascending key order. -/
def sortBy {α : Type} (key : α → Nat) (l : List α) : List α := l.foldl (fun acc x => putBy key x acc) []

/-- The model that a list of records gives, as placed in service now. -/
def imageOf (recs : List RawRecord) (now : Nat) : Image :=
  let channels := sortBy (fun c => channelIndex c.unit c.index)
    ((withTag recs tagChan).map RawRecord.toChannel)
  let hdr := (recs.head?.map (fun r => r.body)).getD []
  { name := (hdr.drop 3).take 16
    version := u8 hdr 0
    segments := sortBy Segment.id ((withTag recs tagSeg).map (fun r =>
      r.toSegment (channels.any (fun c => c.segment == u8 r.body 0))))
    valves := sortBy Valve.id ((withTag recs tagVlv).map (fun r => r.toValve now))
    sources := sortBy Source.id ((withTag recs tagSrc).map RawRecord.toSource)
    units := sortBy FieldUnit.id ((withTag recs tagUnit).map (fun r => r.toUnit now))
    channels := channels
    timing := timingOf recs
    permits := (withTag recs tagPermit).filterMap (fun r =>
      (RequestKind.ofCode (u8 r.body 0)).map (fun k => (k, u8 r.body 1 == 1, u8 r.body 2 == 1))) }

/-! ### Cross-record checks (R198, check 4) -/

/-- Does an end of a valve name a record (R198, REFERENCE)? -/
def Image.hasEnd (img : Image) : End → Bool
  | .segment i => img.segments.any (fun g => g.id == i)
  | .source i => img.sources.any (fun q => q.id == i)

def Image.unit? (img : Image) (id : Nat) : Option FieldUnit := img.units.find? (fun u => u.id == id)

def Image.source? (img : Image) (id : Nat) : Option Source := img.sources.find? (fun q => q.id == id)

/-- REFERENCE of one record. -/
def referenceFits (img : Image) (r : RawRecord) : Bool :=
  match r.tag with
  | 0x03 => img.hasEnd (r.endOf 2) && img.hasEnd (r.endOf 4)
  | 0x04 => match linkOf (u8 r.body 1) with | some u => (img.unit? u).isSome | none => true
  | 0x05 => match linkOf (u8 r.body 4) with | some q => (img.source? q).isSome | none => true
  | 0x06 => (img.unit? (u8 r.body 0)).isSome && img.hasEnd (.segment (u8 r.body 2))
  | _ => true

/-- CHANNELS of one record: an index not below its unit's count or a fifth channel of a segment at CHAN; a
missing channel at UNIT. `earlier` are the records before it. -/
def channelsFit (img : Image) (earlier : List RawRecord) (r : RawRecord) : Bool :=
  match r.tag with
  | 0x06 =>
    (match img.unit? (u8 r.body 0) with
     | some u => decide (u8 r.body 1 < u.channelCount)
     | none => true) &&
    decide (((withTag earlier tagChan).filter (fun x => u8 x.body 2 == u8 r.body 2)).length < 4)
  | 0x05 =>
    (List.range (u8 r.body 3)).all (fun i =>
      img.channels.any (fun c => c.unit == u8 r.body 0 && c.index == i))
  | _ => true

/-- LINK of one record: a one-sided link, reported at the record that holds it. -/
def linkFits (img : Image) (r : RawRecord) : Bool :=
  match r.tag with
  | 0x04 =>
    match linkOf (u8 r.body 1) with
    | none => true
    | some u =>
      match img.unit? u with
      | some x => x.source == some (u8 r.body 0)
      | none => true
  | 0x05 =>
    match linkOf (u8 r.body 4) with
    | none => true
    | some q =>
      match img.source? q with
      | some x => x.unit == some (u8 r.body 0)
      | none => true
  | _ => true

/-- Does a TIMING record give E1 or E2? -/
def RawRecord.givesLimit (r : RawRecord) : Bool :=
  r.tag == tagTiming && r.items.any (fun it => it.1 == 12 || it.1 == 13)

/-- TIMING of one record: E1 exceeds E2, reported at the first TIMING record that gives either (log entry
25). -/
def timingFits (img : Image) (earlier : List RawRecord) (r : RawRecord) : Bool :=
  !(r.givesLimit && !earlier.any RawRecord.givesLimit && decide (img.timing.e2 < img.timing.e1))

/-- The lowest segment not reachable from any source with every valve passing (R198, ORPHAN). -/
def Image.orphan (img : Image) : Option Nat :=
  let ids := img.segments.map (fun g => g.id)
  let reached := suppliedBy img.valves ids (img.sources.map (fun q => q.id))
  ids.find? (fun i => !reached.contains i)

/-- ORPHAN of one record. -/
def orphanFits (orphan : Option Nat) (r : RawRecord) : Bool :=
  !(r.tag == tagSeg && orphan == some (u8 r.body 0))

/-- The first of the cross-record checks that is reported at a record, in the order of R198. -/
def crossFault (img : Image) (orphan : Option Nat) (earlier : List RawRecord) (r : RawRecord) :
    Option Reason :=
  if !referenceFits img r then some .reference
  else if !channelsFit img earlier r then some .channels
  else if !linkFits img r then some .link
  else if !timingFits img earlier r then some .timing
  else if !orphanFits orphan r then some .orphan
  else none

/-- The cross-record checks in the order of the reported record (R198, check 4). -/
def crossFaults (img : Image) (orphan : Option Nat) (earlier : List RawRecord) (n : Nat) :
    List RawRecord → Option (Nat × Reason)
  | [] => none
  | r :: rs =>
    match crossFault img orphan earlier r with
    | some why => some (n, why)
    | none => crossFaults img orphan (earlier ++ [r]) (n + 1) rs

/-- END's CRC agrees with the bytes from the HDR tag to the END length byte (R197, R198 check 2). -/
def crcFits (m : List Host.Cell) (recs : List RawRecord) : Bool :=
  match recs.getLast? with
  | none => false
  | some e => (crc16 (flashSpan m 0 (e.addr + 2))).toNat == u16 e.body 0

/-- Validation (R198): the image of the flash, or the failing record's number and the reason. -/
def validate (m : List Host.Cell) (now : Nat) : Except (Nat × Reason) Image :=
  match walk m 16384 0 0 0 with
  | .error n => .error (n, .format)
  | .ok recs =>
    if !crcFits m recs then .error (recs.length - 1, .crc)
    else
      match perRecordFaults [] 0 recs with
      | some bad => .error bad
      | none =>
        let img := imageOf recs now
        match crossFaults img img.orphan [] 0 recs with
        | some bad => .error bad
        | none => .ok img

/-! ### Placing in service (R49, R158, R199, R202) -/

/-- The picture with a good image placed in service: every record as placed, the timing values, an empty command
queue, and the sweep engine of R49 with its actual sweep started. Orders, calls and outages stand. -/
def Work.place (w : Work) (img : Image) : Work :=
  let placed : Work := { w with
    model := some ⟨img.name, img.version, w.now⟩
    timing := img.timing
    segments := img.segments
    valves := img.valves
    sources := img.sources
    units := img.units
    channels := img.channels
    cmdQueue := []
    sweep :=
      { flight := .idle, actualPending := true, requests := [],
        published := img.segments.map (fun g => g.id), number := 0 } }
  placed.startActual

/-- The grant table with an image's PERMIT records applied to the defaults (R158). -/
def grantsOf (img : Image) : List Grant :=
  defaultGrants.map (fun g =>
    match img.permits.find? (fun x => x.1 == g.kind) with
    | some x => { g with s := x.2.1, d := x.2.2 }
    | none => g)

/-- The replacement event's work on the picture (R202, R61, R115, R156): void results in the order they would
have been served, the other proposals, the outages, then the new model. -/
def Work.replaceModel (w : Work) (img : Image) (waiting : List PlannedRequest) : Work :=
  let voided := waiting.foldl Work.voidResult w
  ((voided.cancelProposals).closeOutages).place img

end Sys2Proof.Machine
end

