-- ==== Sys2Proof/Machine/Notices.lean ====
section
/-! DEFINITION. The notice router (09): routes, masks, coalescing, overflow and read-out. -/

namespace Sys2Proof.Machine

/-- Capacity of a notice queue (R171). -/
def noticeCap : Nat := 32

/-- Is a raise routed to Port S (R169)? -/
def routedToS (r : Raise) : Bool :=
  match r.kind with
  | .pressureLow | .pressureHigh | .pressureNormal | .rapidFall | .channelFault
  | .unitStale | .unitFresh | .sourceState | .valveFault | .valveMoved
  | .orderState | .letby | .breach | .outageOpened | .outageChanged | .outageClosed => true
  | .callNew | .callRaised => r.detail == some (.callClass .a)
  | .callOverdue => r.detail == some (.level 2) || r.detail == some (.level 3)
  | .crewInstruction | .supervisoryAbsent | .supervisoryPresent | .restarted | .resync => false

/-- Is a raise routed to Port D (R169)? -/
def routedToD (r : Raise) : Bool :=
  match r.kind with
  | .sourceState | .valveFault | .crewInstruction | .orderState | .letby | .breach
  | .callNew | .callRaised | .callOverdue | .outageOpened | .outageChanged | .outageClosed
  | .supervisoryAbsent | .supervisoryPresent => true
  | .pressureLow | .pressureHigh | .pressureNormal | .rapidFall | .channelFault
  | .unitStale | .unitFresh | .valveMoved | .restarted | .resync => false

/-- Does an entry have this kind and subject? -/
def NoticeEntry.matches (e : NoticeEntry) (r : Raise) : Bool := e.kind == r.kind && e.subject == r.subject

/-- Coalesce a raise into an entry of its kind and subject: the count up to 255, the latest detail (R171). -/
def NoticeEntry.coalesce (e : NoticeEntry) (r : Raise) : NoticeEntry :=
  { e with count := min (e.count + 1) 255, detail := r.detail }

/-- A raise that reaches a port (R170, R171): withheld by the mask, coalesced, appended, or dropped with the
overflow flag set (R172). -/
def NoticePort.receive (now : Nat) (np : NoticePort) (r : Raise) : NoticePort :=
  if np.mask.contains r.kind then np
  else if np.queue.any (fun e => e.matches r) then
    { np with queue := np.queue.map (fun e => if e.matches r then e.coalesce r else e) }
  else if np.queue.length < noticeCap then
    { np with queue := np.queue ++ [⟨r.kind, r.subject, now, 1, r.detail⟩] }
  else { np with overflow := true }

/-- Hand raises to the router in order (R168): each is queued on the ports its route gives, independently. -/
def State.route (s : State) (raises : List Raise) : State :=
  { s with
    noticesS := (raises.filter routedToS).foldl (NoticePort.receive s.now) s.noticesS
    noticesD := (raises.filter routedToD).foldl (NoticePort.receive s.now) s.noticesD }

/-- PULL_NOTICE on a port's notice state (R173): at most 8 oldest entries leave, the overflow flag is cleared. -/
def NoticePort.pull (np : NoticePort) : NoticePort :=
  { np with queue := np.queue.drop 8, overflow := false }

/-- PULL_NOTICE's reply (R193): the number carried, the flag as it stood, the number left, the entries. -/
def NoticePort.pullPayload (np : NoticePort) : List Byte :=
  enc8 (np.queue.take 8).length ++ encFlag np.overflow ++ enc8 (np.queue.drop 8).length ++
    (np.queue.take 8).flatMap encNotice

/-- PORT_RESET on a port's notice state: RESYNC alone, with the number of entries dropped (R176). -/
def NoticePort.resync (np : NoticePort) (port now : Nat) : NoticePort :=
  { queue := [⟨.resync, port, now, 1, some (.dropped np.queue.length)⟩], mask := [], overflow := false }

/-- The load's outcome is written into each RESTARTED entry still in the queue (R199). -/
def NoticePort.writeRestarted (np : NoticePort) (m : ModelState) : NoticePort :=
  { np with queue := np.queue.map (fun e =>
      if e.kind == .restarted then { e with detail := some (.modelState m) } else e) }

/-- The codes of a SET_NOTICE_MASK payload as kinds; none where one is no notice kind's, or names RESTARTED or
RESYNC (R170). -/
def maskOf : List Byte → Option (List NoticeKind)
  | [] => some []
  | b :: bs =>
    match NoticeKind.ofCode b.toNat, maskOf bs with
    | some k, some ks => if k = .restarted ∨ k = .resync then none else some (k :: ks)
    | _, _ => none

/-- A set of kinds in code order, without duplicates. -/
def maskSet (ks : List NoticeKind) : List NoticeKind :=
  ((List.range 25).filterMap NoticeKind.ofCode).filter (fun k => ks.contains k)

/-- The mask in force as a reply carries it: a count, then the codes in ascending order (R170, R182; log entry
12). -/
def encMask (mask : List NoticeKind) : List Byte :=
  enc8 mask.length ++ mask.flatMap (fun k => enc8 (NoticeKind.code k))

end Sys2Proof.Machine
end

