-- ==== Sys2Proof/Machine/Tables.lean ====
section
/-! DEFINITION. READ_TABLE (01: R13 to R22): its checks, record replies and list replies. -/

namespace Sys2Proof.Machine

/-- The tables (R14). -/
inductive Table where
  | segment | valve | source | unit | channel | order | call | outage | grant | commandQueue | model
  | supply
deriving DecidableEq, Repr

def Table.ofCode : Nat → Option Table
  | 1 => some .segment | 2 => some .valve | 3 => some .source | 4 => some .unit | 5 => some .channel
  | 6 => some .order | 7 => some .call | 8 => some .outage | 9 => some .grant
  | 10 => some .commandQueue | 11 => some .model | 12 => some .supply | _ => none

/-- The highest index of a table under SLOT addressing (R14). -/
def Table.maxIndex : Table → Nat
  | .segment => 255 | .valve => 511 | .source => 15 | .unit => 63 | .channel => 255 | .order => 15
  | .call => 127 | .outage => 31 | .grant => 255 | .commandQueue => 0 | .model => 0 | .supply => 0

/-- The tables whose records carry references (R18). -/
def Table.hasRefs : Table → Bool
  | .order | .call | .outage => true
  | .segment | .valve | .source | .unit | .channel | .grant | .commandQueue | .model | .supply => false

/-- How many lists a table has (R14). -/
def Table.lists : Table → Nat
  | .segment => 3 | .source => 1 | .order => 4 | .call => 1 | .outage => 2 | .commandQueue => 2
  | .valve | .unit | .channel | .grant | .model | .supply => 0

/-- A list of a record as READ_TABLE shows it: the entries in bytes, the page size, and the width of a count
(R14, R182: 2 bytes where the list can hold more than 255 entries). -/
structure ListView where
  entries : List (List Byte)
  page    : Nat
  width   : Nat
deriving DecidableEq, Repr

/-- A record as READ_TABLE shows it: its slot and reference where the table has them, its fields, its lists. -/
structure RecordView where
  slot   : Nat
  ref    : Nat
  fields : List Byte
  lists  : List ListView
deriving DecidableEq, Repr

def encLength (l : ListView) : List Byte := enc16 l.entries.length

def ids1 (ids : List Nat) (page width : Nat) : ListView := ⟨ids.map enc8, page, width⟩

def ids2 (ids : List Nat) (page width : Nat) : ListView := ⟨ids.map enc16, page, width⟩

/-- HOLDERS: the holding orders in ascending slot (R14). After a wrap of the references two records can carry one number, which
is then listed twice and counted once (DESIGN CHOICE, log entry 36). -/
def Picture.holdersOf (pic : Picture) (g : Segment) : List Nat :=
  (pic.orders.filter (fun o => g.holders.contains o.ref)).map (fun o => o.ref)

/-- SEGMENT (R17). -/
def Picture.segmentView (pic : Picture) (g : Segment) : RecordView :=
  let lists := [ids2 (pic.valvesTouching (.segment g.id)) 100 2,
    ids1 ((pic.channelsOf g.id).map (fun c => channelIndex c.unit c.index)) 4 1,
    ids2 (pic.holdersOf g) 16 1]
  { slot := 0, ref := 0, lists := lists,
    fields := enc8 g.id ++ enc8 g.tier.code ++ enc24 g.customers ++ encFlag g.priority ++
      enc8 g.summary.code ++ encFlag g.falling ++ enc8 g.supply.code ++ enc16 g.relit ++
      encOpt 2 enc16 g.outage ++ enc8 g.unsafeA ++ enc8 g.holders.length ++ lists.flatMap encLength }

/-- VALVE (R17). The travel bounds and the travel window are pairs that are present or absent as one (R4, R6); each time of a
pair is carried as an optional field with a presence byte of its own (DESIGN CHOICE, log entry 41). -/
def Picture.valveView (pic : Picture) (v : Valve) : RecordView :=
  { slot := 0, ref := 0, lists := [],
    fields := enc16 v.id ++ encEnd v.endA ++ encEnd v.endB ++ enc8 v.kind.code ++
      encOpt 4 encTime (v.travel.map (fun t => t.1)) ++ encOpt 4 encTime (v.travel.map (fun t => t.2)) ++
      enc8 v.normal.code ++ enc8 v.position.code ++ encFlag (v.position != v.normal) ++
      encFlag v.operable ++ encOpt 2 enc16 v.holder ++
      encOpt 1 (fun a => enc8 (Action.code a)) v.pendingCmd ++
      encOpt 1 (fun a => enc8 (Action.code a)) (pic.queuedAction v.id) ++
      encOpt 4 encTime (v.window.map (fun t => t.1)) ++ encOpt 4 encTime (v.window.map (fun t => t.2)) ++
      encTime v.lastChange }

/-- SOURCE (R17). -/
def Picture.sourceView (pic : Picture) (q : Source) : RecordView :=
  let lists := [ids2 (pic.valvesTouching (.source q.id)) 100 2]
  { slot := 0, ref := 0, lists := lists,
    fields := enc8 q.id ++ encOpt 1 enc8 q.unit ++ enc8 q.state.code ++
      encOpt 1 (fun c => enc8 (OutCause.code c)) q.cause ++ lists.flatMap encLength }

/-- UNIT (R19). -/
def unitView (u : FieldUnit) : RecordView :=
  { slot := 0, ref := 0, lists := [],
    fields := enc8 u.id ++ encTime u.timeout ++ enc8 u.channelCount ++ encOpt 1 enc8 u.source ++
      enc8 u.watch.code ++ encTime u.deadline ++ encFlag u.tripped }

/-- CHANNEL (R19). -/
def channelView (c : Channel) : RecordView :=
  { slot := 0, ref := 0, lists := [],
    fields := enc8 c.unit ++ enc8 c.index ++ enc8 c.segment ++ enc16 c.zero ++ enc16 c.gain ++
      enc8 c.shift ++ enc24 c.loEnter ++ enc24 c.loExit ++ enc24 c.hiExit ++ enc24 c.hiEnter ++
      enc24 c.fallLimit ++ enc24 c.vent ++ encOpt 2 enc16 c.raw ++ encOpt 3 enc24 c.p ++
      encOpt 3 enc24 c.f ++ enc8 c.state.code ++ encFlag c.underRange ++ encFlag c.overRange ++
      encFlag c.falling ++ encOpt 4 encTime c.updated ++ encFlag c.lowPending }

/-- ORDER (R18). 'Automatic or explicit' is carried as an enumerated value of the two that R18 names, automatic 1 and
explicit 2, not as the flag of R87 (DESIGN CHOICE, log entry 34). The list lengths, which R18 names among the fields and
R15 adds after them, are carried once (DESIGN CHOICE, log entry 13). -/
def orderView (o : Order) : RecordView :=
  let lists := [ids1 o.region 16 1, ⟨o.steps.map encStep, 32, 1⟩, ids1 o.expectedOff 200 2,
    ids1 o.newlyAffected 200 2]
  { slot := o.slot, ref := o.ref, lists := lists,
    fields := enc8 o.slot ++ enc16 o.ref ++ enc8 (portCode o.origin) ++ encOpt 2 enc16 o.linkedCall ++
      enc8 o.target ++ enc8 (if o.automatic then 1 else 2) ++ encFlag o.override ++
      encFlag o.priorityCut ++ enc8 o.state.code ++ encTime o.proposed ++
      encOpt 1 (fun v => enc8 (Verification.code v)) o.verification ++
      encOpt 4 encTime o.decayDeadline ++ enc24 o.customerSum ++ lists.flatMap encLength }

/-- CALL (R18); the list length is carried once (log entry 13). -/
def callView (c : Call) : RecordView :=
  let lists := [ids2 c.links 4 1]
  { slot := c.slot, ref := c.ref, lists := lists,
    fields := enc8 c.slot ++ enc16 c.ref ++ enc8 c.segment ++ enc8 c.reported.code ++
      enc8 c.effective.code ++ encFlag c.corroborated ++ encTime c.first ++ encTime c.last ++
      enc8 c.merged ++ enc8 c.state.code ++ encOpt 2 enc16 c.crew ++ enc8 c.level ++
      encOpt 4 encTime c.deadline ++ lists.flatMap encLength }

/-- OUTAGE (R18); the list lengths are carried once (log entry 13). -/
def outageView (o : Outage) : RecordView :=
  let lists := [ids1 o.members 200 2, ids1 o.sourcesOut 16 1]
  { slot := o.id, ref := o.ref, lists := lists,
    fields := enc8 o.id ++ enc16 o.ref ++ encCause o.cause ++ encTime o.opened ++ enc24 o.off ++
      enc24 o.awaiting ++ enc8 o.state.code ++ lists.flatMap encLength }

/-- GRANT (R20). -/
def grantView (g : Grant) : RecordView :=
  { slot := 0, ref := 0, lists := [],
    fields := enc8 g.kind.code ++ encFlag g.s ++ encFlag g.d ++ encFlag g.f ++ encFlag g.grantable }

def encEntry (valve : Nat) (a : Action) : List Byte := enc16 valve ++ enc8 a.code

/-- COMMAND_QUEUE (R20): ENTRIES oldest first, PENDING in ascending valve id. -/
def Picture.queueView (pic : Picture) : RecordView :=
  let waiting := pic.valves.filterMap (fun v => v.pendingCmd.map (encEntry v.id))
  let lists : List ListView :=
    [⟨pic.cmdQueue.map (fun e => encEntry e.valve e.action), 50, 1⟩, ⟨waiting, 50, 2⟩]
  { slot := 0, ref := 0, lists := lists,
    fields := enc8 pic.cmdQueue.length ++ enc16 waiting.length ++ lists.flatMap encLength }

/-- MODEL (R20): the counts are those of the records in service. The attend intervals of classes A, B and C stand before the
three on-site intervals, where R20 leaves open whether they go class by class (DESIGN CHOICE, log entry 38). -/
def Picture.modelView (pic : Picture) (m : ModelInfo) : RecordView :=
  let t := pic.timing
  { slot := 0, ref := 0, lists := [],
    fields := m.name ++ enc8 m.version ++ enc16 pic.segments.length ++ enc16 pic.valves.length ++
      enc8 pic.sources.length ++ enc8 pic.units.length ++ enc16 pic.channels.length ++
      [t.mergeWindow, t.attendA, t.attendB, t.attendC, t.onSiteA, t.onSiteB, t.onSiteC, t.escalation,
        t.decayWindow, t.proposalLifetime, t.presenceTimeout].flatMap encTime ++
      enc24 t.e1 ++ enc24 t.e2 }

/-- SUPPLY (R21): published, the publication number, the supplied set. -/
def Picture.supplyView (pic : Picture) : RecordView :=
  { slot := 0, ref := 0, lists := [],
    fields := encFlag (pic.sweep.number != 0) ++ enc16 pic.sweep.number ++ encSet pic.sweep.published }

/-- The record an index names under SLOT addressing, if there is one (R1, R15, R18). -/
def State.slotView (s : State) (t : Table) (index : Nat) : Option RecordView :=
  match t with
  | .segment => (s.segment? index).map s.segmentView
  | .valve => (s.valve? index).map s.valveView
  | .source => (s.source? index).map s.sourceView
  | .unit => (s.unit? index).map unitView
  | .channel => (s.channel? (index / 4) (index % 4)).map channelView
  | .order => (s.order? index).map orderView
  | .call => (s.call? index).map callView
  | .outage => (s.outage? index).map outageView
  | .grant =>
    match RequestKind.ofCode index with
    | none => none
    | some k => (s.grants.find? (fun g => g.kind == k)).map grantView
  | .commandQueue => some s.queueView
  | .model => s.model.map s.modelView
  | .supply => some s.supplyView

/-- The record a reference names (R18). -/
def State.refView (s : State) (t : Table) (ref : Nat) : Option RecordView :=
  match t with
  | .order => (s.orderByRef? ref).map orderView
  | .call => (s.callByRef? ref).map callView
  | .outage => (s.outageByRef? ref).map outageView
  | .segment | .valve | .source | .unit | .channel | .grant | .commandQueue | .model | .supply => none

/-- A record reply (R15; log entry 13). -/
def recordReply (t : Table) (code index : Nat) (v : RecordView) : List Byte :=
  enc8 code ++ enc16 index ++ (if t.hasRefs then enc8 v.slot ++ enc16 v.ref else []) ++ v.fields

/-- A list reply (R16): the entries from the start position, at most a page. -/
def listReply (t : Table) (code index selector start : Nat) (v : RecordView) (l : ListView) : List Byte :=
  let page := (l.entries.drop start).take l.page
  enc8 code ++ enc16 index ++ (if t.hasRefs then enc16 v.ref else []) ++ enc8 selector ++
    enc16 l.entries.length ++ enc16 start ++
    (if l.width = 1 then enc8 page.length else enc16 page.length) ++ page.flatten

/-- READ_TABLE (R13): the field checks in their order, then the record, then the start position. -/
def State.readTable (s : State) (pl : List Byte) : Answer :=
  let code := u8 pl 0
  let mode := u8 pl 1
  let index := u16 pl 2
  let selector := u8 pl 4
  let start := u16 pl 5
  match Table.ofCode code with
  | none => (.badValue, [])
  | some t =>
    if !(mode == 1 || (mode == 2 && t.hasRefs)) then (.badValue, [])
    else if !(if mode == 1 then decide (index ≤ t.maxIndex) else decide (1 ≤ index)) then
      (.badValue, [])
    else if t.lists < selector then (.badValue, [])
    else
      match (if mode = 1 then s.slotView t index else s.refView t index) with
      | none => (.noSuch, [])
      | some v =>
        if selector = 0 then (.done, recordReply t code index v)
        else
          match v.lists[selector - 1]? with
          | none => (.badValue, [])
          | some l =>
            if l.entries.length < start then (.badValue, [])
            else (.done, listReply t code index selector start v l)

end Sys2Proof.Machine
end

