-- ==== Sys2Proof/Machine/Service.lean ====
section
/-! DEFINITION. The port blocks' shared operations (10): the status byte, admission, taking, the common checks,
answers; presence (08: R161); and the end of every event: suppression, the waking of the sweep engine, the
routing of its notices, and the ATTN outputs. -/

namespace Sys2Proof.Machine

/-! ### Ports -/

def State.port (s : State) : Port → PortBlock
  | .s => s.portS | .d => s.portD | .f => s.portF

def State.setPort (s : State) (p : Port) (b : PortBlock) : State :=
  match p with
  | .s => { s with portS := b }
  | .d => { s with portD := b }
  | .f => { s with portF := b }

/-- Reply buffers of a port (R185). -/
def replyCap : Nat := 2

/-- Capacity of Port F's FIFO (R188). -/
def fifoCap : Nat := 64

/-- Empty inbound buffers of Port S or D: a request in service holds one (R180, R185). -/
def PortBlock.freeSlots (b : PortBlock) : Nat :=
  2 - b.inbound.length - (if b.inService.isSome then 1 else 0)

/-- Bits 4–3 of the status byte: free inbound slots, or on Port F bit 3 for room in the FIFO (R180). -/
def State.roomBits (s : State) : Port → Nat
  | .s => s.portS.freeSlots
  | .d => s.portD.freeSlots
  | .f => if s.portF.inbound.length < fifoCap then 1 else 0

/-- Bit 6 of the status byte: notice pending, or on Port F command pending (R180). -/
def State.somethingPending (s : State) : Port → Bool
  | .s => !s.noticesS.queue.isEmpty
  | .d => !s.noticesD.queue.isEmpty
  | .f => !s.cmdQueue.isEmpty

/-- The status byte (R180). -/
def State.statusByte (s : State) (p : Port) : Byte :=
  BitVec.ofNat 8 ((if (s.port p).replies.isEmpty then 0 else 128) +
    (if s.somethingPending p then 64 else 0) +
    (if (s.port p).discarded then 32 else 0) + 8 * s.roomBits p)

/-- FLOW after a change of the FIFO's fill (R189). -/
def flowAfter (fill : Nat) (flow : Bool) : Bool :=
  if 48 ≤ fill then false else if fill < 16 then true else flow

/-- FLOW follows the FIFO (R189); an event on another port leaves it. -/
def State.updateFlow (s : State) : Port → State
  | .s => s
  | .d => s
  | .f => { s with flow := flowAfter s.portF.inbound.length s.flow }

/-! ### The end of an event -/

/-- ATTN of Ports S and D: a notice or a reply to collect (R174). ATTN of Port F: an entry in the field command
queue (R65). -/
def State.settle (s : State) : State :=
  { s with
    attnS := !s.noticesS.queue.isEmpty || !s.portS.replies.isEmpty
    attnD := !s.noticesD.queue.isEmpty || !s.portD.replies.isEmpty
    attnF := !s.cmdQueue.isEmpty }

/-- The operating picture as an event begins to act on it. -/
def State.work (s : State) : Work := { s.toPicture with out := [] }

/-- An event's work comes into the state: suppression that the event ended (R42), the sweep it woke (R52), and its
notices, routed in the order in which they were raised (R168). -/
def State.absorb (s : State) (w : Work) : State :=
  let done := (w.endSuppression s.toPicture).wake s.toPicture
  ({ s with toPicture := done.toPicture } : State).route done.out

/-! ### Answers (R181, R185, R190) -/

/-- Place a reply in an empty reply buffer (R185). -/
def State.placeReply (s : State) (p : Port) (kind tag : Byte) (a : Answer) : State :=
  s.setPort p { s.port p with replies := (s.port p).replies ++ [replyFrame kind tag a.1 a.2] }

/-- The completion of a request in service: its reply is placed, or discarded after a PORT_RESET, and its inbound
buffer is emptied (R185, R190). -/
def State.complete (s : State) (p : Port) (a : Answer) : State :=
  match (s.port p).inService with
  | none => s
  | some r =>
    let freed := s.setPort p { s.port p with inService := none }
    if r.discard then freed else freed.placeReply p r.kind r.tag a

/-! ### Presence (R161) -/

/-- Presence is restarted by an admission on Port S; from ABSENT it raises SUPERVISORY_PRESENT (R161, R162). -/
def State.restartPresence (s : State) : State :=
  let up : State := { s with presence :=
    { s.presence with
      present := true
      deadline := some (s.now + s.timing.presenceTimeout)
      lastAdmission := some s.now } }
  if s.presence.present then up
  else up.route [⟨.supervisoryPresent, portCode .s, s.presence.absentSince.map Detail.time⟩]

/-- Frames of Ports D and F have no effect on presence (R161, R188). -/
def State.admissionPresence (s : State) : Port → State
  | .s => s.restartPresence
  | .d => s
  | .f => s

/-! ### Transfers (R179, R184, R188, R190) -/

/-- A frame is discarded at admission, or while it is taken on Port F: the flag is set (R180, R184, R188). -/
def State.discardFrame (s : State) (p : Port) : State := s.setPort p { s.port p with discarded := true }

/-- The reset of a port (R190): the request in service will have its reply discarded, waiting requests are dropped,
both reply buffers are emptied, the flag is cleared, RESYNC is placed, and DONE is answered. -/
def State.resetPort (s : State) (p : Port) (tag : Byte) : State :=
  let b := s.port p
  let s1 := s.setPort p { b with
    inbound := []
    inService := b.inService.map (fun r => { r with discard := true })
    replies := [replyFrame (BitVec.ofNat 8 RequestKind.portReset.code) tag .done []]
    discarded := false }
  let s2 : State := match p with
    | .s => { s1 with noticesS := s1.noticesS.resync (portCode .s) s1.now }
    | .d => { s1 with noticesD := s1.noticesD.resync (portCode .d) s1.now }
    | .f => s1
  (s2.updateFlow p).admissionPresence p

/-- A request frame is admitted behind those that wait (R184, R188). -/
def State.bufferFrame (s : State) (p : Port) (f : Request) : State :=
  ((s.setPort p { s.port p with inbound := (s.port p).inbound ++ [f] }).updateFlow p).admissionPresence p

/-- Case 4 of R184, and R188: the status byte of the transfer showed no room. -/
def Transfer.noRoom (t : Transfer) : Bool := t.status &&& 0x18#8 == 0#8

/-- What the end of a write transfer does with its frame: the cases of R184 and R188 in their order. -/
def State.receiveFrame (s : State) (p : Port) (t : Transfer) (bytes : List Byte) : State :=
  match readFrame bytes with
  | none => s.discardFrame p
  | some f =>
    if f.kind.toNat = RequestKind.portReset.code then s.resetPort p f.tag
    else if t.noRoom then s.discardFrame p
    else s.bufferFrame p f

/-- The transfer on a port ends. -/
def State.endTransfer (s : State) (p : Port) : State := s.setPort p { s.port p with transfer := none }

/-! ### Taking (R185, R187, R188) -/

/-- The cold-start load has ended (R194, R199). -/
def State.loadEnded (s : State) : Bool := s.store != some .coldStartLoad

/-- A RELOAD is in progress (R96, R119, R201). -/
def State.reloading (s : State) : Bool := s.store == some .reload

/-- Is a frame a report of the field (R188)? -/
def Request.isReport (f : Request) : Bool := f.kind == 0x70 || f.kind == 0x71

/-- May a port take its oldest waiting frame (R185; R188 for Port F)? -/
def State.mayTake (s : State) (p : Port) (f : Request) : Bool :=
  (s.port p).inService.isNone && s.loadEnded &&
    (decide ((s.port p).replies.length < replyCap) ||
      (match p with | .f => f.isReport | .s => false | .d => false))

/-- The taking of a port's oldest waiting frame, if the port may take it (R185, R188). -/
def State.takeOldest (s : State) (p : Port) : Option (Request × State) :=
  match (s.port p).inbound with
  | [] => none
  | f :: rest =>
    if s.mayTake p f then some (f, (s.setPort p { s.port p with inbound := rest }).updateFlow p) else none

/-- The taking of a request of one kind. -/
def State.takeKind (s : State) (p : Port) (k : RequestKind) : Option (Request × State) :=
  match s.takeOldest p with
  | none => none
  | some (f, s1) => if RequestKind.ofCode f.kind.toNat = some k then some (f, s1) else none

/-- Does the grant entry of a kind permit a port (R159)? -/
def State.permits (s : State) (p : Port) (k : RequestKind) : Bool :=
  match s.grants.find? (fun g => g.kind == k) with
  | none => false
  | some g => match p with | .s => g.s | .d => g.d | .f => g.f

/-- The kinds that NO_MODEL does not refuse (R187). -/
def servedWithoutModel : RequestKind → Bool
  | .status | .portReset | .storeRead | .storeWrite | .reload => true
  | .readTable | .pullNotice | .setNoticeMask | .proposeIsolation | .commitOrder | .cancelOrder
  | .beginRestore | .valveOperate | .valveAssert | .valveMark | .setSource | .crewValveReport
  | .logCall | .nextCall | .assignCall | .callProgress | .purgeReport | .relightReport
  | .unitReport | .positionReport | .pullCommand => false

/-- Checks 2 to 4 of the common checks (R187): the code of the first that fails. -/
def State.commonCheck (s : State) (p : Port) (k : RequestKind) (pl : List Byte) : Option Result :=
  if !s.permits p k then some .notPermitted
  else if s.model.isNone && !servedWithoutModel k then some .noModel
  else if !lengthFits k pl then some .badLength
  else none

/-- Serve a request whose whole effect belongs to the taking event (R185): the common checks, then the block's own
work and its answer. -/
def State.serve (s : State) (p : Port) (k : RequestKind)
    (own : State → List Byte → Work → Answer × Work) : State :=
  match s.takeKind p k with
  | none => s
  | some (f, s1) =>
    match s1.commonCheck p k f.payload with
    | some code => (s1.placeReply p f.kind f.tag (code, [])).settle
    | none =>
      let r := own s1 f.payload s1.work
      ((s1.absorb r.2).placeReply p f.kind f.tag r.1).settle

/-- Serve a request that reads and changes nothing but the notice state or nothing at all (R185). -/
def State.serveState (s : State) (p : Port) (k : RequestKind)
    (own : State → List Byte → Answer × State) : State :=
  match s.takeKind p k with
  | none => s
  | some (f, s1) =>
    match s1.commonCheck p k f.payload with
    | some code => (s1.placeReply p f.kind f.tag (code, [])).settle
    | none =>
      let r := own s1 f.payload
      (r.2.placeReply p f.kind f.tag r.1).settle

/-- Serve a request of the five kinds that stay in service after the taking (R185): a refusal is answered at once;
otherwise the request holds its inbound buffer until its completion. -/
def State.serveHeld (s : State) (p : Port) (k : RequestKind)
    (own : State → List Byte → Except Result State) : State :=
  match s.takeKind p k with
  | none => s
  | some (f, s1) =>
    match s1.commonCheck p k f.payload with
    | some code => (s1.placeReply p f.kind f.tag (code, [])).settle
    | none =>
      match own s1 f.payload with
      | .error code => (s1.placeReply p f.kind f.tag (code, [])).settle
      | .ok s2 => (s2.setPort p { s2.port p with inService := some ⟨f.kind, f.tag, false⟩ }).settle

/-- Serve a report (R188): never answered on Port F, where a failed check discards it and sets the flag. On another
port it is a request, which its grant entry refuses (R159). -/
def State.serveReport (s : State) (p : Port) (k : RequestKind) (own : List Byte → Work → Work) : State :=
  match s.takeKind p k with
  | none => s
  | some (f, s1) =>
    match s1.commonCheck p k f.payload with
    | some code =>
      match p with
      | .f => (s1.discardFrame .f).settle
      | .s => (s1.placeReply .s f.kind f.tag (code, [])).settle
      | .d => (s1.placeReply .d f.kind f.tag (code, [])).settle
    | none => (s1.absorb (own f.payload s1.work)).settle

/-- The work of an event that no port asked for. -/
def State.react (s : State) (g : Work → Work) : State := (s.absorb (g s.work)).settle

end Sys2Proof.Machine
end

