-- ==== Sys2Proof/Machine/StartUp.lean ====
section
/-! DEFINITION. Cold start, the time base, the store and RELOAD (11: R195 to R202). -/

namespace Sys2Proof.Machine

/-! ### The flash -/

/-- The byte at an address after a failed write: its former value, its new value or 0xFF, which of them is free
(R200, log entry 8). -/
def failedByte (draw : Nat) (former new : Byte) (a : Nat) : Byte :=
  match Config.failedWriteFate draw a with
  | .former => former
  | .new => new
  | .erased => erased

/-- A sector after a failed write of a span (R200). -/
def failedWrite (draw : Nat) (m : List Host.Cell) (addr : Nat) (data : List Byte) : List Host.Cell :=
  let new := flashWriteSpan m addr data
  let base := sectorBase addr
  flashWriteSpan m base ((List.range 4096).map (fun i =>
    failedByte draw (flashRead m (base + i)) (flashRead new (base + i)) (base + i)))

/-- A sector whose rewriting a cold start cuts short: its bytes are free (log entry 9). -/
def interruptedWrite (draw : Nat) (m : List Host.Cell) (addr : Nat) : List Host.Cell :=
  let base := sectorBase addr
  flashWriteSpan m base ((List.range 4096).map (fun i => Config.interruptedByte draw (base + i)))

/-! ### Cold start (R199) -/

/-- COLD_START (R199): every value of reset; the flash keeps its bytes, but for a sector being rewritten (log entry
9); a transfer in progress on a port is dropped (log entry 37); the queue is the environment's. -/
def execColdStart (s : State) : Host.Outcome State Fault Refusal :=
  .next { State.reset with
    pending := s.pending
    flash := match s.store with
      | some (.write addr _) => interruptedWrite s.freeDraws s.flash addr
      | _ => s.flash
    freeDraws := match s.store with
      | some (.write _ _) => s.freeDraws + 1
      | _ => s.freeDraws }

/-- The part enters NO_MODEL (R199, R49): no records, the defaults, and the sweep engine's values for that case. -/
def Work.enterNoModel (w : Work) : Work :=
  { w with
    model := none, timing := defaultTiming, segments := [], valves := [], sources := [], units := [],
    channels := [], cmdQueue := [], sweep := SweepEngine.noModel }

/-- The end of the cold-start load with the model state it leaves (R199). -/
def State.endLoad (s : State) (w : Work) (grants : List Grant) (m : ModelState) : State :=
  ({ s with
    toPicture := w.toPicture
    grants := grants
    noticesS := s.noticesS.writeRestarted m
    noticesD := s.noticesD.writeRestarted m
    store := none } : State).settle

/-- COLD_START_LOAD_COMPLETE (R199): a good image is placed in service; a bad one, or a flash failure, leaves the part
in NO_MODEL. -/
def execColdStartLoadComplete (flashFailed : Bool) (s : State) : Host.Outcome State Fault Refusal :=
  if s.store = some .coldStartLoad then
    match (if flashFailed then .error (0, .format) else validate s.flash s.now) with
    | .ok img => .next (s.endLoad (s.work.place img) (grantsOf img) .inService)
    | .error _ => .next (s.endLoad s.work.enterNoModel defaultGrants .noModel)
  else .next s

/-! ### The seconds counter and presence (R195, R162) -/

/-- Last value of the seconds counter (R195). -/
def lastSecond : Nat := 4294967295

/-- SECONDS_COUNTER_TICK (R195). -/
def execSecondsCounterTick (s : State) : Host.Outcome State Fault Refusal :=
  .next { s with now := if s.now < lastSecond then s.now + 1 else s.now }

/-- A deadline has been reached by the counter (R195). -/
def reached (deadline : Option Nat) (now : Nat) : Bool :=
  match deadline with
  | some t => decide (t ≤ now)
  | none => false

/-- PRESENCE_EXPIRY (R162). -/
def execPresenceExpiry (s : State) : Host.Outcome State Fault Refusal :=
  if s.presence.present && reached s.presence.deadline s.now then
    .next ((({ s with presence :=
        { s.presence with present := false, deadline := none, absentSince := some s.now } } : State).route
      [⟨.supervisoryAbsent, portCode .s, s.presence.lastAdmission.map Detail.time⟩]).settle)
  else .next s

/-! ### Flash access (R200) -/

/-- STORE_READ's own checks: a length of 1 to 128, a span within 0xFFFF (R200). -/
def State.takeStoreRead (s : State) (pl : List Byte) : Except Result State :=
  let addr := u16 pl 0
  let len := u8 pl 2
  if len < 1 ∨ 128 < len ∨ 65536 < addr + len then .error .badValue
  else .ok { s with store := some (.read addr len) }

/-- STORE_WRITE's own checks: a span within 0xFFFF and within one sector (R200). -/
def State.takeStoreWrite (s : State) (pl : List Byte) : Except Result State :=
  let addr := u16 pl 0
  let data := pl.drop 2
  if 65536 < addr + data.length ∨ sectorBase (addr + data.length - 1) ≠ sectorBase addr then
    .error .badValue
  else .ok { s with store := some (.write addr data) }

/-- STORE_READ (R200). -/
def execStoreRead (p : Port) (s : State) : Host.Outcome State Fault Refusal :=
  .next (s.serveHeld p .storeRead State.takeStoreRead)

/-- STORE_WRITE (R200). -/
def execStoreWrite (p : Port) (s : State) : Host.Outcome State Fault Refusal :=
  .next (s.serveHeld p .storeWrite State.takeStoreWrite)

/-- STORE_READ_COMPLETE (R200): DONE with the bytes, or STORE_FAULT. -/
def execStoreReadComplete (flashFailed : Bool) (s : State) : Host.Outcome State Fault Refusal :=
  match s.store with
  | some (.read addr len) =>
    .next ((({ s with store := none } : State).complete .s
      (if flashFailed then (.storeFault, []) else (.done, flashSpan s.flash addr len))).settle)
  | _ => .next s

/-- STORE_WRITE_COMPLETE (R200): DONE with the span replaced, or STORE_FAULT with the sector's bytes free within
what R200 allows. -/
def execStoreWriteComplete (flashFailed : Bool) (s : State) : Host.Outcome State Fault Refusal :=
  match s.store with
  | some (.write addr data) =>
    if flashFailed then
      .next ((({ s with
        store := none
        flash := failedWrite s.freeDraws s.flash addr data
        freeDraws := s.freeDraws + 1 } : State).complete .s (.storeFault, [])).settle)
    else
      .next ((({ s with store := none, flash := flashWriteSpan s.flash addr data } : State).complete .s
        (.done, [])).settle)
  | _ => .next s

/-! ### RELOAD (R201, R202) -/

/-- RELOAD's own checks: no order non-terminal, no call open, no outage ACTIVE or RESTORING (R201). -/
def State.takeReload (s : State) (_ : List Byte) : Except Result State :=
  if s.orders.any (fun o => !o.terminal) || s.calls.any Call.isOpen || s.outages.any Outage.isOpen then
    .error .wrongState
  else .ok { s with store := some .reload }

/-- RELOAD (R201). -/
def execReload (p : Port) (s : State) : Host.Outcome State Fault Refusal :=
  .next (s.serveHeld p .reload State.takeReload)

/-- The planned requests of a sweep engine in the order they would be served: the one in service, then the list
(R61). -/
def SweepEngine.allRequests (e : SweepEngine) : List PlannedRequest :=
  match e.flight with
  | .planned r _ => r :: e.requests
  | .idle => e.requests
  | .actual _ => e.requests

/-- The payload of a RELOAD that ends DONE: the network name and the counts (R201). -/
def reloadPayload (img : Image) : List Byte :=
  img.name ++ enc16 img.segments.length ++ enc16 img.valves.length ++ enc8 img.sources.length ++
    enc8 img.units.length ++ enc16 img.channels.length

/-- The replacement event (R202): the picture, the grant table, the void results' replies, then RELOAD's own. Every void
result is answered WRONG_STATE with LEN 0, that of a commit too (DESIGN CHOICE, log entry 19). -/
def State.replace (s : State) (img : Image) : State :=
  let waiting := s.sweep.allRequests
  let s1 := s.absorb (s.work.replaceModel img waiting)
  let s2 : State := { s1 with grants := grantsOf img, store := none }
  let s3 := waiting.foldl (fun acc r => acc.complete r.port (.wrongState, [])) s2
  s3.complete .s (.done, reloadPayload img)

/-- RELOAD_COMPLETE (R201): STORE_FAULT, IMAGE_BAD with the failing record and the reason, or the replacement. -/
def execReloadComplete (flashFailed : Bool) (s : State) : Host.Outcome State Fault Refusal :=
  if s.store = some .reload then
    if flashFailed then
      .next ((({ s with store := none } : State).complete .s (.storeFault, [])).settle)
    else
      match validate s.flash s.now with
      | .error bad =>
        .next ((({ s with store := none } : State).complete .s
          (.imageBad, enc16 bad.1 ++ enc8 bad.2.code)).settle)
      | .ok img => .next (s.replace img).settle
  else .next s

end Sys2Proof.Machine
end

