-- ==== Sys2Proof/Machine/CallEvents.lean ====
section
/-! DEFINITION. The commands of the call register (06). -/

namespace Sys2Proof.Machine

/-- LOG_CALL (R119). -/
def execLogCall (p : Port) (s : State) : Host.Outcome State Fault Refusal :=
  .next (s.serve p .logCall (fun s1 pl w => w.takeLogCall s1.reloading pl))

/-- ASSIGN_CALL (R128). -/
def execAssignCall (p : Port) (s : State) : Host.Outcome State Fault Refusal :=
  .next (s.serve p .assignCall (fun _ pl w => w.takeAssign pl))

/-- CALL_PROGRESS (R129). -/
def execCallProgress (p : Port) (s : State) : Host.Outcome State Fault Refusal :=
  .next (s.serve p .callProgress (fun _ pl w => w.takeProgress pl))

/-- CALL_DEADLINE_EXPIRY (R131). -/
def execCallDeadlineExpiry (slot : Nat) (s : State) : Host.Outcome State Fault Refusal :=
  match s.call? slot with
  | none => .next s
  | some c =>
    if (c.state = .new ∨ c.state = .assigned) ∧ reached c.deadline s.now = true then
      .next (s.react (fun w => w.expireCall c))
    else .next s

end Sys2Proof.Machine
end

