-- ==== Sys2Proof/Machine/NetworkEvents.lean ====
section
/-! DEFINITION. The commands of the pressure monitor and of outage accounting (02, 07). -/

namespace Sys2Proof.Machine

/-- UNIT_REPORT (R23). -/
def execUnitReport (p : Port) (s : State) : Host.Outcome State Fault Refusal :=
  .next (s.serveReport p .unitReport (fun pl w => w.takeUnitReport pl))

/-- WATCH_EXPIRY (R27): a unit in STALE takes no further expiry. -/
def execWatchExpiry (unit : Nat) (s : State) : Host.Outcome State Fault Refusal :=
  match s.unit? unit with
  | none => .next s
  | some u =>
    if u.watch ≠ .stale ∧ u.deadline ≤ s.now then .next (s.react (fun w => w.expireWatch u))
    else .next s

/-- PURGE_REPORT (R142). -/
def execPurgeReport (p : Port) (s : State) : Host.Outcome State Fault Refusal :=
  .next (s.serve p .purgeReport (fun _ pl w => w.takePurge pl))

/-- RELIGHT_REPORT (R143). -/
def execRelightReport (p : Port) (s : State) : Host.Outcome State Fault Refusal :=
  .next (s.serve p .relightReport (fun _ pl w => w.takeRelight pl))

end Sys2Proof.Machine
end

