-- ==== Sys2Proof/Machine/OrderEvents.lean ====
section
/-! DEFINITION. The commands of the order engine and of the sweep engine (05, 03). -/

namespace Sys2Proof.Machine

/-- A request of the order operations that stays in service: its own checks and its work on the picture. -/
def State.heldWork (s : State) (r : Except Result Work) : Except Result State :=
  match r with
  | .error code => .error code
  | .ok w => .ok (s.absorb w)

/-- PROPOSE_ISOLATION (R90, R93). -/
def execProposeIsolation (p : Port) (s : State) : Host.Outcome State Fault Refusal :=
  .next (s.serveHeld p .proposeIsolation (fun s1 pl => s1.heldWork (s1.work.takePropose p pl)))

/-- COMMIT_ORDER (R96). -/
def execCommitOrder (p : Port) (s : State) : Host.Outcome State Fault Refusal :=
  .next (s.serveHeld p .commitOrder (fun s1 pl => s1.heldWork (s1.work.takeCommit s1.reloading p pl)))

/-- CANCEL_ORDER (R113). -/
def execCancelOrder (p : Port) (s : State) : Host.Outcome State Fault Refusal :=
  .next (s.serve p .cancelOrder (fun _ pl w => w.takeCancel p pl))

/-- BEGIN_RESTORE (R109). -/
def execBeginRestore (p : Port) (s : State) : Host.Outcome State Fault Refusal :=
  .next (s.serve p .beginRestore (fun _ pl w => w.takeBeginRestore pl))

/-- The work of an actual sweep's completion (R55, R56, R52). -/
def Work.completeActual (w : Work) (inputs : SweepInputs) : Work :=
  (w.publish (w.supplied inputs)).nextAfterActual

/-- ACTUAL_SWEEP_COMPLETE (R55). -/
def execActualSweepComplete (s : State) : Host.Outcome State Fault Refusal :=
  match s.sweep.flight with
  | .actual inputs => .next (s.react (fun w => w.completeActual inputs))
  | .idle => .next s
  | .planned _ _ => .next s

/-- The work of a planned sweep's completion (R57): the order operation takes the result, and the engine chooses its
next sweep (R52). -/
def Work.completePlanned (w : Work) (present : Bool) (r : PlannedRequest) (inputs : SweepInputs) :
    Answer × Work :=
  let taken := w.plannedResult present r (w.unsupplied (w.supplied inputs))
  (taken.1, taken.2.nextAfterPlanned)

/-- PLANNED_SWEEP_COMPLETE (R57): the reply goes to the request's port in the same event. -/
def execPlannedSweepComplete (s : State) : Host.Outcome State Fault Refusal :=
  match s.sweep.flight with
  | .planned r inputs =>
    let done := s.work.completePlanned s.presence.present r inputs
    .next (((s.absorb done.2).complete r.port done.1).settle)
  | .idle => .next s
  | .actual _ => .next s

/-- DECAY_DEADLINE_EXPIRY (R105). -/
def execDecayDeadlineExpiry (slot : Nat) (s : State) : Host.Outcome State Fault Refusal :=
  match s.order? slot with
  | none => .next s
  | some o =>
    match o.decayDeadline with
    | none => .next s
    | some t =>
      if o.state = .executing ∧ t ≤ s.now then .next (s.react (fun w => w.decayExpiry o t)) else .next s

/-- PROPOSAL_EXPIRY (R95). -/
def execProposalExpiry (slot : Nat) (s : State) : Host.Outcome State Fault Refusal :=
  match s.order? slot with
  | none => .next s
  | some o =>
    if o.state = .proposed ∧ reached o.expiry s.now = true then
      .next (s.react (fun w => w.endOrder o .expired))
    else .next s

end Sys2Proof.Machine
end

