-- ==== Sys2Proof/Machine/PortEvents.lean ====
section
/-! DEFINITION. Transfers, PORT_RESET and the requests of the ports, the router and the tables themselves (10, 09: R170,
R173; 01: R13). -/

namespace Sys2Proof.Machine

/-- Transfer codes (R179). -/
def codeWrite : Byte := 0xC0
def codeRead : Byte := 0x30

/-- TRANSFER_START (R179, R180, R186): the status byte is driven, the flag is cleared after it, and a read chooses the
oldest reply then waiting. -/
def execTransferStart (p : Port) (code : Byte) (s : State) : Host.Outcome State Fault Refusal :=
  match (s.port p).transfer with
  | some _ => .next s
  | none =>
    .next ((s.setPort p { s.port p with
      discarded := false
      transfer := some
        { code := code, status := s.statusByte p
          chosen := if code = codeRead then (s.port p).replies.head? else none } }).settle)

/-- The byte that the part drives while the master clocks byte i of a transfer (R179, R186): the status byte, then on a
read the bytes of the reply chosen at its start, and 0x00 after the end of that frame, without a reply, and on every
write and status transfer. -/
def Transfer.drives (t : Transfer) : Nat → Byte
  | 0 => t.status
  | i + 1 =>
    if t.code = codeRead then
      match t.chosen with
      | some frame => frame.getD i 0x00
      | none => 0x00
    else 0x00

/-- WRITE_TRANSFER (R184, R188). -/
def execWriteTransfer (p : Port) (bytes : List Byte) (s : State) : Host.Outcome State Fault Refusal :=
  match (s.port p).transfer with
  | some t =>
    if t.code = codeWrite then .next (((s.endTransfer p).receiveFrame p t bytes).settle) else .next s
  | none => .next s

/-- The end of a read transfer: the chosen reply is removed if every byte of it was clocked (R186). -/
def State.endRead (s : State) (p : Port) (t : Transfer) (clocked : Nat) : State :=
  let s1 := s.endTransfer p
  match t.chosen with
  | none => s1
  | some frame =>
    if frame.length ≤ clocked then s1.setPort p { s1.port p with replies := (s1.port p).replies.drop 1 }
    else s1

/-- READ_TRANSFER (R186). -/
def execReadTransfer (p : Port) (clocked : Nat) (s : State) : Host.Outcome State Fault Refusal :=
  match (s.port p).transfer with
  | some t => if t.code = codeRead then .next ((s.endRead p t clocked).settle) else .next s
  | none => .next s

/-- STATUS_TRANSFER (R179): no effect at its end. -/
def execStatusTransfer (p : Port) (s : State) : Host.Outcome State Fault Refusal :=
  match (s.port p).transfer with
  | some t =>
    if t.code = codeWrite ∨ t.code = codeRead then .next s else .next ((s.endTransfer p).settle)
  | none => .next s

/-- PORT_RESET (R190), taken at the admission of its frame, which ends the write transfer that carried it (log entry
5). -/
def execPortReset (p : Port) (tag : Byte) (s : State) : Host.Outcome State Fault Refusal :=
  match (s.port p).transfer with
  | some t =>
    if t.code = codeWrite then .next (((s.endTransfer p).resetPort p tag).settle) else .next s
  | none => .next s

/-- UNKNOWN_KIND_REQUEST (R187, check 1). -/
def execUnknownKindRequest (p : Port) (s : State) : Host.Outcome State Fault Refusal :=
  match s.takeOldest p with
  | none => .next s
  | some (f, s1) =>
    if RequestKind.ofCode f.kind.toNat = none then
      .next ((s1.placeReply p f.kind f.tag (.unknownKind, [])).settle)
    else .next s

/-! ### STATUS (R191) -/

def State.modelState (s : State) : ModelState := if s.model.isSome then .inService else .noModel

/-- The 18 bytes of the STATUS reply (R191). -/
def State.statusPayload (s : State) : List Byte :=
  enc8 s.modelState.code ++ encTime s.now ++ enc8 (if s.presence.present then 1 else 2) ++
  enc24 s.customersOff ++ enc24 s.awaitingRelight ++
  enc8 (s.calls.filter Call.isOpen).length ++
  enc8 (s.calls.filter (fun c => c.state == .new)).length ++
  enc8 (s.orders.filter (fun o => !o.terminal)).length ++
  enc16 s.sweep.number ++ encFlag s.store.isSome

/-- STATUS (R191). -/
def execStatus (p : Port) (s : State) : Host.Outcome State Fault Refusal :=
  .next (s.serveState p .status (fun s1 _ => ((.done, s1.statusPayload), s1)))

/-- READ_TABLE (R13). -/
def execReadTable (p : Port) (s : State) : Host.Outcome State Fault Refusal :=
  .next (s.serveState p .readTable (fun s1 pl => (s1.readTable pl, s1)))

/-- NEXT_CALL (R127). -/
def execNextCall (p : Port) (s : State) : Host.Outcome State Fault Refusal :=
  .next (s.serveState p .nextCall (fun s1 _ => ((.done, s1.nextCallPayload), s1)))

/-! ### The notice requests (R170, R173) -/

/-- The notice state of a port; Port F has none (09). -/
def State.notices (s : State) : Port → NoticePort
  | .s => s.noticesS
  | .d => s.noticesD
  | .f => { queue := [], mask := [], overflow := false }

def State.setNotices (s : State) (p : Port) (np : NoticePort) : State :=
  match p with
  | .s => { s with noticesS := np }
  | .d => { s with noticesD := np }
  | .f => s

/-- PULL_NOTICE's work (R173). -/
def State.takePullNotice (p : Port) (s : State) (_ : List Byte) : Answer × State :=
  ((.done, (s.notices p).pullPayload), s.setNotices p (s.notices p).pull)

/-- PULL_NOTICE (R173). -/
def execPullNotice (p : Port) (s : State) : Host.Outcome State Fault Refusal :=
  .next (s.serveState p .pullNotice (State.takePullNotice p))

/-- SET_NOTICE_MASK's work (R170). -/
def State.takeSetMask (p : Port) (s : State) (pl : List Byte) : Answer × State :=
  match maskOf (pl.drop 1) with
  | none => ((.badValue, []), s)
  | some ks =>
    let mask := maskSet ks
    ((.done, encMask mask), s.setNotices p { s.notices p with mask := mask })

/-- SET_NOTICE_MASK (R170). -/
def execSetNoticeMask (p : Port) (s : State) : Host.Outcome State Fault Refusal :=
  .next (s.serveState p .setNoticeMask (State.takeSetMask p))

end Sys2Proof.Machine
end

