-- ==== Sys2Proof/Machine/ValveEvents.lean ====
section
/-! DEFINITION. The commands of the valve block (04). -/

namespace Sys2Proof.Machine

/-- The valve a request names: an id outside 0 to 511 is refused BAD_VALUE, one naming no valve NO_SUCH (R73, R74,
R75, R76). -/
def Picture.namedValve (pic : Picture) (vid : Nat) : Except Result Valve :=
  if 511 < vid then .error .badValue
  else
    match pic.valve? vid with
    | none => .error .noSuch
    | some v => .ok v

/-- VALVE_OPERATE's checks and work (R76). -/
def Work.takeOperate (w : Work) (pl : List Byte) : Answer × Work :=
  match Action.ofCode (u8 pl 2) with
  | none => ((.badValue, []), w)
  | some a =>
    match w.namedValve (u16 pl 0) with
    | .error code => ((code, []), w)
    | .ok v =>
      if v.kind = .manual ∨ v.position = .fault ∨ v.operable = false then ((.wrongState, []), w)
      else if v.holder ≠ none then ((.valveHeld, []), w)
      else
        match w.command v a with
        | (.refused, w1) => ((.callOpen, []), w1)
        | (.doneAtOnce, w1) => ((.done, []), w1)
        | (.taken, w1) => ((.done, []), w1)

/-- VALVE_OPERATE (R76). -/
def execValveOperate (p : Port) (s : State) : Host.Outcome State Fault Refusal :=
  .next (s.serve p .valveOperate (fun _ pl w => w.takeOperate pl))

/-- Positions a VALVE_ASSERT may carry (R74, R182). -/
def assertedPosition : Nat → Option Position
  | 1 => some .open_ | 2 => some .closed | 5 => some .unknown | _ => none

/-- Does an assertion remove a command or an instruction of the valve (R74)? A valve in travel has neither: a command
that has been pulled is out of reach of every withdrawal (R67, log entry 17). -/
def Valve.losesCommand (v : Valve) (q : Position) : Bool :=
  v.prior.isSome || v.outstanding.map Action.target == some q

/-- The effects of a VALVE_ASSERT that passes (R74): a command that awaits pull is removed, a travel window cleared, the
position is written, and a holder is passed the position with any withdrawal (R78). -/
def Work.assertValve (w : Work) (v : Valve) (q : Position) : Work :=
  let w1 := ((w.dropCommand v.id).updValve v.id (fun x =>
    { x with
      window := none, prior := none,
      outstanding := if x.outstanding.map Action.target = some q then none else x.outstanding }))
  let w2 := (w1.setPosition v.id q).fillQueue
  w2.passToOrder v.id (.position q (v.position != q) (v.losesCommand q))

/-- VALVE_ASSERT's checks and work (R74). -/
def Work.takeAssert (w : Work) (pl : List Byte) : Answer × Work :=
  match assertedPosition (u8 pl 2) with
  | none => ((.badValue, []), w)
  | some q =>
    match w.namedValve (u16 pl 0) with
    | .error code => ((code, []), w)
    | .ok v => ((.done, []), w.assertValve v q)

/-- VALVE_ASSERT (R74). -/
def execValveAssert (p : Port) (s : State) : Host.Outcome State Fault Refusal :=
  .next (s.serve p .valveAssert (fun _ pl w => w.takeAssert pl))

/-- Marks of VALVE_MARK (R192): OPERABLE 1, INOPERABLE 2. -/
def markOf : Nat → Option Bool
  | 1 => some true | 2 => some false | _ => none

/-- VALVE_MARK's checks and work (R75). -/
def Work.takeMark (w : Work) (pl : List Byte) : Answer × Work :=
  match markOf (u8 pl 2) with
  | none => ((.badValue, []), w)
  | some mark =>
    match w.namedValve (u16 pl 0) with
    | .error code => ((code, []), w)
    | .ok v => ((.done, []), w.updValve v.id (fun x => { x with operable := mark }))

/-- VALVE_MARK (R75). -/
def execValveMark (p : Port) (s : State) : Host.Outcome State Fault Refusal :=
  .next (s.serve p .valveMark (fun _ pl w => w.takeMark pl))

/-- Is a source's linked unit tripped (R8, R83)? -/
def Picture.linkedTripped (pic : Picture) (q : Source) : Bool :=
  match q.unit with
  | none => false
  | some u => match pic.unit? u with | some x => x.tripped | none => false

/-- SET_SOURCE's checks and work (R83). -/
def Work.takeSetSource (w : Work) (pl : List Byte) : Answer × Work :=
  match SourceState.ofCode (u8 pl 1) with
  | none => ((.badValue, []), w)
  | some st =>
    if 15 < u8 pl 0 then ((.badValue, []), w)
    else
      match w.source? (u8 pl 0) with
      | none => ((.noSuch, []), w)
      | some q =>
        match st with
        | .out => ((.done, []), w.writeSource q .out (some .operator))
        | .live =>
          if w.linkedTripped q then ((.wrongState, []), w) else ((.done, []), w.writeSource q .live none)

/-- SET_SOURCE (R83). -/
def execSetSource (p : Port) (s : State) : Host.Outcome State Fault Refusal :=
  .next (s.serve p .setSource (fun _ pl w => w.takeSetSource pl))

/-- Positions a CREW_VALVE_REPORT may carry (R73). -/
def crewPosition : Nat → Option Position
  | 1 => some .open_ | 2 => some .closed | _ => none

/-- The effects of a CREW_VALVE_REPORT that passes (R73). -/
def Work.crewReport (w : Work) (v : Valve) (q : Position) : Work :=
  let w1 := w.setPosition v.id q
  let w2 := if v.position = q then w1 else w1.raise .valveMoved v.id (some (.position q))
  let w3 := w2.updValve v.id (fun x =>
    { x with outstanding := if x.outstanding.map Action.target = some q then none else x.outstanding })
  w3.passToOrder v.id (.position q (v.position != q) false)

/-- CREW_VALVE_REPORT's checks and work (R73). -/
def Work.takeCrewReport (w : Work) (pl : List Byte) : Answer × Work :=
  match crewPosition (u8 pl 2) with
  | none => ((.badValue, []), w)
  | some q =>
    match w.namedValve (u16 pl 0) with
    | .error code => ((code, []), w)
    | .ok v => if v.kind = .remote then ((.wrongState, []), w) else ((.done, []), w.crewReport v q)

/-- CREW_VALVE_REPORT (R73). -/
def execCrewValveReport (p : Port) (s : State) : Host.Outcome State Fault Refusal :=
  .next (s.serve p .crewValveReport (fun _ pl w => w.takeCrewReport pl))

/-- What a POSITION_REPORT carries: OPEN, CLOSED, or MID, here none (R69, R182). -/
def reportedPosition : Nat → Option (Option Position)
  | 1 => some (some .open_) | 2 => some (some .closed) | 7 => some none | _ => none

/-- An uncommanded move of a valve at rest (R71). -/
def Work.uncommanded (w : Work) (vid : Nat) (q : Position) : Work :=
  (w.setPosition vid q).raise .valveMoved vid (some (.position q))

/-- The valve's record after a report, by the table of R69: first the valve in travel, then awaiting pull, then at
rest. -/
def Work.reportPosition (w : Work) (v : Valve) (rep : Option Position) : Work :=
  match v.window, v.prior with
  | some win, _ =>
    match rep with
    | none => w
    | some q =>
      if (v.position = .opening ∧ q = .open_) ∨ (v.position = .closing ∧ q = .closed) then
        if w.now < win.1 then w.enterFault v.id .implausible
        else (w.updValve v.id (fun x => { x with window := none })).setPosition v.id q
      else w
  | none, some _ =>
    match rep with
    | none => w
    | some q =>
      if (v.position = .opening ∧ q = .open_) ∨ (v.position = .closing ∧ q = .closed) then
        (w.returnToPrior v.id q).fillQueue
      else w.updValve v.id (fun x => { x with prior := some q })
  | none, none =>
    match v.position, rep with
    | .fault, _ => w
    | .unknown, none => w
    | _, none => w.uncommanded v.id .unknown
    | here, some q => if here = q then w else w.uncommanded v.id q

/-- Did a report make the valve enter FAULT (R69, R70)? -/
def Work.reportFaults (w : Work) (v : Valve) (rep : Option Position) : Bool :=
  match v.window, rep with
  | some win, some q =>
    ((v.position == .opening && q == .open_) || (v.position == .closing && q == .closed)) &&
      decide (w.now < win.1)
  | _, _ => false

/-- A POSITION_REPORT (R69): discarded, or taken and passed to a holder, a fault with it (R78). -/
def Work.takePositionReport (pl : List Byte) (w : Work) : Work :=
  match reportedPosition (u8 pl 2) with
  | none => w
  | some rep =>
    match w.valve? (u16 pl 0) with
    | none => w
    | some v =>
      if v.kind = .manual then w
      else
        let w1 := w.reportPosition v rep
        let here := w1.positionOf v.id
        let w2 := w1.passToOrder v.id (.position here (here != v.position) false)
        if w.reportFaults v rep then w2.passToOrder v.id .fault else w2

/-- POSITION_REPORT (R69). -/
def execPositionReport (p : Port) (s : State) : Host.Outcome State Fault Refusal :=
  .next (s.serveReport p .positionReport Work.takePositionReport)

/-- TRAVEL_DEADLINE_EXPIRY (R68): FAULT with cause STUCK, and the fault passed to a holder (R70). -/
def execTravelDeadlineExpiry (vid : Nat) (s : State) : Host.Outcome State Fault Refusal :=
  match s.valve? vid with
  | none => .next s
  | some v =>
    if reached (v.window.map (fun t => t.2)) s.now then
      .next (s.react (fun w => (w.enterFault vid .stuck).passToOrder vid .fault))
    else .next s

/-- PULL_COMMAND's work (R67): the oldest entry leaves, its valve goes in travel with its window, and freed space takes
a pending command. -/
def Work.takePull (w : Work) : Answer × Work :=
  match w.cmdQueue with
  | [] => ((.done, enc8 1), w)
  | e :: rest =>
    let left : Work := { w with cmdQueue := rest }
    let moved := left.updValve e.valve (fun x =>
      { x with
        prior := none
        window := x.travel.map (fun t => (w.now + t.1, w.now + t.2)) })
    ((.done, enc16 e.valve ++ enc8 e.action.code), moved.fillQueue)

/-- PULL_COMMAND (R67). -/
def execPullCommand (p : Port) (s : State) : Host.Outcome State Fault Refusal :=
  .next (s.serve p .pullCommand (fun _ _ w => w.takePull))

end Sys2Proof.Machine
end

