-- ==== Sys2Proof/Machine/Dispatch.lean ====
section
/-! DEFINITION. One arm for each command of the table: its meaning. -/

namespace Sys2Proof.Machine

/-- A command's effect on everything but the queue. -/
def exec (i : Instr) (s : State) : Host.Outcome State Fault Refusal :=
  match i with
  | .coldStart => Sys2Proof.Machine.execColdStart s
  | .coldStartLoadComplete flashFailed => Sys2Proof.Machine.execColdStartLoadComplete flashFailed s
  | .secondsCounterTick => Sys2Proof.Machine.execSecondsCounterTick s
  | .transferStart p code => Sys2Proof.Machine.execTransferStart p code s
  | .writeTransfer p bytes => Sys2Proof.Machine.execWriteTransfer p bytes s
  | .readTransfer p clocked => Sys2Proof.Machine.execReadTransfer p clocked s
  | .statusTransfer p => Sys2Proof.Machine.execStatusTransfer p s
  | .presenceExpiry => Sys2Proof.Machine.execPresenceExpiry s
  | .unknownKindRequest p => Sys2Proof.Machine.execUnknownKindRequest p s
  | .status p => Sys2Proof.Machine.execStatus p s
  | .portReset p tag => Sys2Proof.Machine.execPortReset p tag s
  | .readTable p => Sys2Proof.Machine.execReadTable p s
  | .pullNotice p => Sys2Proof.Machine.execPullNotice p s
  | .setNoticeMask p => Sys2Proof.Machine.execSetNoticeMask p s
  | .proposeIsolation p => Sys2Proof.Machine.execProposeIsolation p s
  | .commitOrder p => Sys2Proof.Machine.execCommitOrder p s
  | .cancelOrder p => Sys2Proof.Machine.execCancelOrder p s
  | .beginRestore p => Sys2Proof.Machine.execBeginRestore p s
  | .valveOperate p => Sys2Proof.Machine.execValveOperate p s
  | .valveAssert p => Sys2Proof.Machine.execValveAssert p s
  | .valveMark p => Sys2Proof.Machine.execValveMark p s
  | .setSource p => Sys2Proof.Machine.execSetSource p s
  | .crewValveReport p => Sys2Proof.Machine.execCrewValveReport p s
  | .logCall p => Sys2Proof.Machine.execLogCall p s
  | .nextCall p => Sys2Proof.Machine.execNextCall p s
  | .assignCall p => Sys2Proof.Machine.execAssignCall p s
  | .callProgress p => Sys2Proof.Machine.execCallProgress p s
  | .purgeReport p => Sys2Proof.Machine.execPurgeReport p s
  | .relightReport p => Sys2Proof.Machine.execRelightReport p s
  | .storeRead p => Sys2Proof.Machine.execStoreRead p s
  | .storeReadComplete flashFailed => Sys2Proof.Machine.execStoreReadComplete flashFailed s
  | .storeWrite p => Sys2Proof.Machine.execStoreWrite p s
  | .storeWriteComplete flashFailed => Sys2Proof.Machine.execStoreWriteComplete flashFailed s
  | .reload p => Sys2Proof.Machine.execReload p s
  | .reloadComplete flashFailed => Sys2Proof.Machine.execReloadComplete flashFailed s
  | .unitReport p => Sys2Proof.Machine.execUnitReport p s
  | .watchExpiry unit => Sys2Proof.Machine.execWatchExpiry unit s
  | .positionReport p => Sys2Proof.Machine.execPositionReport p s
  | .travelDeadlineExpiry valve => Sys2Proof.Machine.execTravelDeadlineExpiry valve s
  | .pullCommand p => Sys2Proof.Machine.execPullCommand p s
  | .actualSweepComplete => Sys2Proof.Machine.execActualSweepComplete s
  | .plannedSweepComplete => Sys2Proof.Machine.execPlannedSweepComplete s
  | .decayDeadlineExpiry slot => Sys2Proof.Machine.execDecayDeadlineExpiry slot s
  | .proposalExpiry slot => Sys2Proof.Machine.execProposalExpiry slot s
  | .callDeadlineExpiry slot => Sys2Proof.Machine.execCallDeadlineExpiry slot s

end Sys2Proof.Machine
end

