-- ==== Sys2Proof/Safety.lean ====
section
/-! DEFINITION. What is claimed of the machine: the invariants of its steps, reachability in a sweep, what it is for
a port to offer a request, and the state that a request leaves. Every invariant is a decidable proposition over one
state. -/

namespace Sys2Proof.Machine

/-! ### Ports, notices, outputs, flash -/

/-- What counts against a port's inbound store: on Ports S and D the request in service holds a buffer (R180,
R185); on Port F it is the FIFO's fill (R188). -/
def PortBlock.fill (b : PortBlock) : Port → Nat
  | .s => b.inbound.length + (if b.inService.isSome then 1 else 0)
  | .d => b.inbound.length + (if b.inService.isSome then 1 else 0)
  | .f => b.inbound.length

/-- Capacity of a port's inbound store: 2 buffers, or a FIFO of 64 frames (R185, R188). -/
def inboundCap : Port → Nat
  | .s => 2 | .d => 2 | .f => fifoCap

/-- A port block in order (R184, R185, R188): no store above its capacity, room for the reply of the request in
service, and room for the frame of a write transfer whose status byte showed room. -/
abbrev PortBlock.sound (b : PortBlock) (p : Port) : Prop :=
  b.fill p ≤ inboundCap p ∧ b.replies.length ≤ replyCap ∧
  (∀ r ∈ b.inService, r.discard = false → b.replies.length < replyCap) ∧
  (∀ t ∈ b.transfer, t.noRoom = false → b.fill p < inboundCap p)

/-- All three port blocks are in order. -/
abbrev State.portsSound (s : State) : Prop :=
  s.portS.sound .s ∧ s.portD.sound .d ∧ s.portF.sound .f

/-- A port's notice state in order (R171, R168, R170): at most 32 entries, at most one for each kind and subject,
raise counts 1 to 255, and a mask without RESTARTED and RESYNC. -/
abbrev NoticePort.sound (np : NoticePort) : Prop :=
  np.queue.length ≤ noticeCap ∧
  np.queue.Pairwise (fun x y => ¬ (x.kind = y.kind ∧ x.subject = y.subject)) ∧
  (∀ e ∈ np.queue, 1 ≤ e.count ∧ e.count ≤ 255) ∧
  NoticeKind.restarted ∉ np.mask ∧ NoticeKind.resync ∉ np.mask

/-- Both notice states are in order. -/
abbrev State.noticesSound (s : State) : Prop := s.noticesS.sound ∧ s.noticesD.sound

/-- The outputs say what they stand for: ATTN of Ports S and D (R174), ATTN of Port F (R65), FLOW outside its
hysteresis band (R189); and the seconds counter lies in 32 bits (R195). -/
abbrev State.outputsTrue (s : State) : Prop :=
  (s.attnS = true ↔ s.noticesS.queue ≠ [] ∨ s.portS.replies ≠ []) ∧
  (s.attnD = true ↔ s.noticesD.queue ≠ [] ∨ s.portD.replies ≠ []) ∧
  (s.attnF = true ↔ s.cmdQueue ≠ []) ∧
  (48 ≤ s.portF.inbound.length → s.flow = false) ∧
  (s.portF.inbound.length < 16 → s.flow = true) ∧
  s.now ≤ lastSecond

/-- The address and the bytes of a STORE_WRITE in hand (R200). -/
def StoreOp.writeSpan : StoreOp → Option (Nat × List Byte)
  | .write addr data => some (addr, data)
  | .coldStartLoad | .read _ _ | .reload => none

/-- The flash is in canonical form, and a STORE_WRITE in hand stays within it and within one sector (R196, R200). -/
abbrev State.flashSound (s : State) : Prop :=
  flashWf s.flash = true ∧
  (∀ op ∈ s.store, ∀ x ∈ op.writeSpan,
    x.2 ≠ [] ∧ x.1 + x.2.length ≤ 65536 ∧ sectorBase (x.1 + x.2.length - 1) = sectorBase x.1)

/-! ### Sweeps -/

/-- A chain of passing valves leads to the segment from a LIVE source, through segments in service only (R47). -/
inductive Reach (passing : List Valve) (ids live : List Nat) : Nat → Prop where
  /-- A passing valve joins the segment to a source that is LIVE. -/
  | seed {v : Valve} {id q : Nat} (hv : v ∈ passing) (hid : id ∈ ids) (hq : q ∈ live)
      (ends : (v.endA = .source q ∧ v.endB = .segment id) ∨
        (v.endA = .segment id ∧ v.endB = .source q)) : Reach passing ids live id
  /-- A passing valve joins the segment to one that is reached. -/
  | join {v : Valve} {id b : Nat} (hv : v ∈ passing) (hid : id ∈ ids) (hb : Reach passing ids live b)
      (ends : (v.endA = .segment id ∧ v.endB = .segment b) ∨
        (v.endA = .segment b ∧ v.endB = .segment id)) : Reach passing ids live id

/-- While the engine is IDLE, actual-pending is clear and the list of planned requests is empty (R52). -/
abbrev State.engineSound (s : State) : Prop :=
  s.sweep.flight = .idle → s.sweep.actualPending = false ∧ s.sweep.requests = []

/-! ### Valves -/

/-- A position of a valve at rest (R63). -/
def Position.atRest : Position → Bool
  | .open_ | .closed | .unknown | .fault => true
  | .closing | .opening => false

/-- At rest: no command state is held (R63). -/
abbrev Picture.valveAtRest (pic : Picture) (v : Valve) : Prop :=
  v.window = none ∧ v.prior = none ∧ v.pendingCmd = none ∧ pic.queuedAction v.id = none ∧
    v.position.atRest = true

/-- Awaiting pull: a prior position, the travel position of the command, and the command in the queue or pending,
never both (R63). -/
abbrev Picture.valveAwaits (pic : Picture) (v : Valve) : Prop :=
  v.window = none ∧ v.prior.any Position.atRest = true ∧
    ((v.pendingCmd.any (fun a => v.position == a.travel) = true ∧ pic.queuedAction v.id = none) ∨
     (v.pendingCmd = none ∧ (pic.queuedAction v.id).any (fun a => v.position == a.travel) = true))

/-- In travel: a travel window and nothing else (R63). -/
abbrev Picture.valveTravels (pic : Picture) (v : Valve) : Prop :=
  v.window ≠ none ∧ v.prior = none ∧ v.pendingCmd = none ∧ pic.queuedAction v.id = none ∧
    (v.position = .opening ∨ v.position = .closing)

/-- The valve block in order (R63, R65): a REMOTE valve is in one of its three conditions, a MANUAL valve at rest, the
queue holds at most 32 entries, at most one for each valve, each for a REMOTE valve in service. -/
abbrev Picture.valvesSound (pic : Picture) : Prop :=
  (pic.valves.map (fun v => v.id)).Pairwise (· < ·) ∧
  (∀ v ∈ pic.valves,
    (v.kind = .remote → v.travel ≠ none ∧ v.outstanding = none ∧
      (pic.valveAtRest v ∨ pic.valveAwaits v ∨ pic.valveTravels v)) ∧
    (v.kind = .manual → pic.valveAtRest v ∧ v.position ≠ .fault)) ∧
  pic.cmdQueue.length ≤ cmdQueueCap ∧
  (pic.cmdQueue.map (fun e => e.valve)).Pairwise (· ≠ ·) ∧
  (∀ e ∈ pic.cmdQueue, ∃ v ∈ pic.valves, v.id = e.valve ∧ v.kind = .remote)

/-- No valve has an OPEN command that awaits pull, nor an outstanding OPEN instruction, while a segment at one of its
ends has an unsafe class-A count above 0 (R80, R81). -/
abbrev Picture.interlockHolds (pic : Picture) : Prop :=
  (pic.valves.map (fun v => v.id)).Pairwise (· < ·) ∧
  (pic.segments.map (fun g => g.id)).Pairwise (· < ·) ∧
  (∀ v ∈ pic.valves, v.hasOpenInHand = true → pic.interlocked v = false)

/-! ### Calls -/

/-- The number of calls on a segment that are unsafe and of effective class A (R132). -/
def Picture.unsafeCalls (pic : Picture) (segment : Nat) : Nat :=
  (pic.calls.filter (fun c => c.segment == segment && c.isUnsafe && c.effective == .a)).length

/-- Each segment's count is the number of its unsafe class-A calls (R132); with what keeps it so: one record in a
slot, only CLOSED calls in the order of closing, and no call open while a model is being replaced or loaded (R117,
R139). -/
abbrev State.countsExact (s : State) : Prop :=
  (s.segments.map (fun g => g.id)).Pairwise (· < ·) ∧
  (s.calls.map (fun c => c.slot)).Pairwise (· < ·) ∧
  (∀ g ∈ s.segments, g.unsafeA = s.unsafeCalls g.id) ∧
  (∀ k ∈ s.closedCalls, ∀ c ∈ s.calls, c.slot = k → c.state = .closed) ∧
  (s.store = some .reload ∨ s.store = some .coldStartLoad → ∀ c ∈ s.calls, c.state = .closed)

/-- A call record in order (R116, R123, R130, R131): the effective class never below the reported one, the level at
most 3, the merged count 1 to 255, at most 4 linked orders, and a deadline exactly in NEW and ASSIGNED. -/
abbrev Call.sound (c : Call) : Prop :=
  c.effective.rank ≤ c.reported.rank ∧ c.level ≤ 3 ∧ 1 ≤ c.merged ∧ c.merged ≤ 255 ∧
  c.links.length ≤ 4 ∧ (c.deadline ≠ none ↔ c.state = .new ∨ c.state = .assigned)

/-- Every call record is in order, one in a slot, and every CLOSED one stands in the order of closing (R116). -/
abbrev Picture.callsSound (pic : Picture) : Prop :=
  (pic.calls.map (fun c => c.slot)).Pairwise (· < ·) ∧ (∀ c ∈ pic.calls, c.sound) ∧
  ∀ c ∈ pic.calls, c.state = .closed → c.slot ∈ pic.closedCalls

/-! ### Orders -/

/-- No valve stands in two steps (R90, R91). -/
abbrev distinctValves (steps : List Step) : Prop := (steps.map (fun t => t.valve)).Pairwise (· ≠ ·)

/-- Ranks are issued whole and in ascending order (R100): a step that waits ranks above every step that does not, and once
the chain has been complete, or the order has gone to RESTORING, none waits. -/
abbrev Order.issuedByRank (o : Order) : Prop :=
  (∀ t ∈ o.steps, ∀ u ∈ o.steps, t.state = .waiting → u.state ≠ .waiting → u.rank < t.rank) ∧
  (o.state ∈ [OrderState.isolated, .letby, .breached, .restoring, .done] → ∀ t ∈ o.steps, t.state ≠ .waiting)

/-- An order record in order (R87, R93, R95, R96, R100, R103): 1 to 16 region segments, 1 to 32 steps of ranks 0 to 7, no
valve in two of them, ranks issued in their order, an expiry exactly while PROPOSED without a commit in hand, a decay
deadline only with its list while EXECUTING with the chain complete. -/
abbrev Order.sound (o : Order) : Prop :=
  o.slot < 16 ∧ o.region ≠ [] ∧ o.region.length ≤ 16 ∧ o.steps ≠ [] ∧ o.steps.length ≤ 32 ∧
  (∀ t ∈ o.steps, t.rank ≤ 7) ∧ distinctValves o.steps ∧ o.issuedByRank ∧
  (o.expiry ≠ none ↔ o.state = .proposed ∧ o.commitInHand = false) ∧
  (o.decayDeadline ≠ none → o.chainComplete = true ∧ o.decayList ≠ []) ∧
  (o.decayDeadline = none → o.decayList = [])

/-- The region and steps that a COMMIT keeps in the sweep engine's hands (R96). -/
def PlannedOp.formed : PlannedOp → Option (List Nat × List Step)
  | .propose => none
  | .commit _ region steps => some (region, steps)

/-- The slot chosen for a new record (R88, R117): the lowest that was never used, else the one whose record ended earliest, in
the order of ending, else none. -/
def slotChosen (used : List Nat) (slots : Nat) (ended : List Nat) : Option Nat → Prop
  | some k => (k < slots ∧ k ∉ used ∧ ∀ j < k, j ∈ used) ∨ ((∀ j < slots, j ∈ used) ∧ ended.head? = some k)
  | none => (∀ j < slots, j ∈ used) ∧ ended = []

/-- What a COMMIT in the sweep engine's hands would write is in order too. -/
abbrev PlannedRequest.sound (r : PlannedRequest) : Prop :=
  ∀ x ∈ r.op.formed, x.1 ≠ [] ∧ x.1.length ≤ 16 ∧ x.2 ≠ [] ∧ x.2.length ≤ 32 ∧
    (∀ t ∈ x.2, t.rank ≤ 7) ∧ distinctValves x.2

/-- The order table is in order (R87, R88): one record in a slot, the order of becoming terminal holds the terminal records
and no other, and the sweep engine's requests are in order; and there is one valve of an id (R1). -/
abbrev Picture.ordersSound (pic : Picture) : Prop :=
  (pic.valves.map (fun v => v.id)).Pairwise (· < ·) ∧
  (pic.orders.map (fun o => o.slot)).Pairwise (· < ·) ∧
  (∀ o ∈ pic.orders, o.sound) ∧
  (∀ k ∈ pic.terminalSlots, k < 16 ∧ ∀ o ∈ pic.orders, o.slot = k → o.terminal = true) ∧
  (∀ o ∈ pic.orders, o.terminal = true → o.slot ∈ pic.terminalSlots) ∧
  (∀ r ∈ pic.sweep.allRequests, r.sound)

/-! ### Outages and supply states -/

/-- A segment's supply record in order (R140, R147): LIVE in no outage, any other state in one that is open; the
relit count below the customers in RELIGHT and 0 elsewhere. -/
abbrev Picture.supplySound (pic : Picture) (g : Segment) : Prop :=
  (g.supply = .live → g.outage = none) ∧
  (g.supply ≠ .live → ∃ o ∈ pic.outages, o.isOpen = true ∧ g.outage = some o.ref) ∧
  (g.supply ≠ .relight → g.relit = 0) ∧
  (g.supply = .relight → g.relit < g.customers)

/-- An open record's state and figures are those of its members (R151, R152): ACTIVE while one is in OFF, else RESTORING
with one in PURGE or RELIGHT. -/
abbrev Picture.recordSound (pic : Picture) (o : Outage) : Prop :=
  (o.state = .active ↔ (pic.membersOf o.ref).any (fun g => g.supply == .off) = true) ∧
  (o.state = .restoring ↔ (pic.membersOf o.ref).any (fun g => g.supply == .off) = false ∧
    (pic.membersOf o.ref).any (fun g => g.supply == .purge || g.supply == .relight) = true) ∧
  o.off = (((pic.membersOf o.ref).filter (fun g => g.supply == .off || g.supply == .purge)).map
    (fun g => g.customers)).sum ∧
  o.awaiting = (((pic.membersOf o.ref).filter (fun g => g.supply == .relight)).map
    (fun g => g.customers - g.relit)).sum

/-- The outage table in order (R144 to R151): one record for each id, every record in the order of opening, every open
record with its members' state and figures, CLOSED records without figures and in the order of closing. -/
abbrev Picture.outageTableSound (pic : Picture) : Prop :=
  (pic.outages.map (fun o => o.id)).Pairwise (· < ·) ∧
  (∀ o ∈ pic.outages, o.id < 32 ∧ o.id ∈ pic.openedOutages) ∧
  (∀ o ∈ pic.outages, o.isOpen = true → pic.recordSound o) ∧
  (∀ o ∈ pic.outages, o.isOpen = false → o.off = 0 ∧ o.awaiting = 0 ∧ o.id ∈ pic.closedOutages) ∧
  (∀ k ∈ pic.closedOutages, ∃ o ∈ pic.outages, o.id = k ∧ o.isOpen = false)

/-- Outage accounting in order (R140, R144 to R152): the outage table and every supply record in order, and the network
totals the sums over the open records. No segment or record stands while the cold-start load runs (R199). -/
abbrev State.outagesSound (s : State) : Prop :=
  (s.store = some .coldStartLoad → s.segments = [] ∧ s.outages = []) ∧
  (s.segments.map (fun g => g.id)).Pairwise (· < ·) ∧
  (∀ g ∈ s.segments, s.supplySound g) ∧
  s.outageTableSound ∧
  s.customersOff = ((s.outages.filter Outage.isOpen).map (fun o => o.off)).sum ∧
  s.awaitingRelight = ((s.outages.filter Outage.isOpen).map (fun o => o.awaiting)).sum

/-! ### Channels -/

/-- A channel record in order (R10, R11, R33, R35, R43): the limits in order, pressures in range, F present in every
fresh state, FALLING clear without a fall limit, and a low alarm pending only in LOW. -/
abbrev Channel.sound (c : Channel) : Prop :=
  c.loEnter ≤ c.loExit ∧ c.loExit < c.hiExit ∧ c.hiExit ≤ c.hiEnter ∧
  (∀ x ∈ c.p, x ≤ maxPressure) ∧ (∀ x ∈ c.f, x ≤ maxPressure) ∧
  (c.fresh = true → c.f ≠ none) ∧
  (c.fallLimit = 0 → c.falling = false) ∧
  (c.lowPending = true → c.state = .low)

/-- Every channel record is in order, and there is one for each unit and index, in ascending order of them (R1, R12). -/
abbrev Picture.channelsSound (pic : Picture) : Prop :=
  (pic.channels.map (fun c => channelIndex c.unit c.index)).Pairwise (· < ·) ∧ ∀ c ∈ pic.channels, c.sound

/-! ### Requests -/

/-- The code of a request kind as a frame carries it (R192). -/
def RequestKind.byte (k : RequestKind) : Byte := BitVec.ofNat 8 k.code

/-- The oldest waiting frame of a port is a request of kind k with this TAG and payload, `rest` wait behind it, and
the port may take it: no request in service, an empty reply buffer, the cold-start load ended (R185, R188). -/
abbrev State.offers (s : State) (p : Port) (k : RequestKind) (tag : Byte) (pl : List Byte)
    (rest : List Request) : Prop :=
  (s.port p).inbound = ⟨k.byte, tag, pl⟩ :: rest ∧ (s.port p).inService = none ∧
    (s.port p).replies.length < 2 ∧ s.store ≠ some .coldStartLoad

/-- A request passes the checks common to all requests (R187, 2 to 4): the grant entry permits the port, a model is in
service or the kind needs none, and the length fits the kind's layout. -/
abbrev State.passes (s : State) (p : Port) (k : RequestKind) (pl : List Byte) : Prop :=
  s.permits p k = true ∧ (s.model ≠ none ∨ servedWithoutModel k = true) ∧ lengthFits k pl = true

/-- The state as a taking leaves it before the request acts: the frame has left its port, and FLOW follows (R185,
R188, R189). -/
def State.taken (s : State) (p : Port) (rest : List Request) : State :=
  (s.setPort p { s.port p with inbound := rest }).updateFlow p

/-- The state with a request's reply placed in its port's reply buffers, and ATTN following (R185, R174). -/
def State.answer (s : State) (p : Port) (k : RequestKind) (tag : Byte) (result : Result)
    (payload : List Byte) : State :=
  (s.placeReply p k.byte tag (result, payload)).settle

/-- The state with a request held in service at its port until its completion (R185). -/
def State.holdRequest (s : State) (p : Port) (k : RequestKind) (tag : Byte) : State :=
  (s.setPort p { s.port p with inService := some ⟨k.byte, tag, false⟩ }).settle

/-- The outcome in which a request is answered with a result code alone and changes nothing else: a refusal
(R187). -/
def State.refuses (s : State) (p : Port) (k : RequestKind) (tag : Byte) (rest : List Request)
    (code : Result) : Host.Outcome State Fault Refusal :=
  .next ((s.taken p rest).answer p k tag code [])

/-- The port's block once its request is answered: the frame has left, and the reply stands behind those that wait
(R185). -/
abbrev State.answered (s t : State) (p : Port) (k : RequestKind) (tag : Byte) (rest : List Request)
    (code : Result) (payload : List Byte) : Prop :=
  t.port p = { s.port p with
    inbound := rest, replies := (s.port p).replies ++ [replyFrame k.byte tag code payload] }

/-- The port's block once its request is held in service (R185). -/
abbrev State.held (s t : State) (p : Port) (k : RequestKind) (tag : Byte) (rest : List Request) : Prop :=
  t.port p = { s.port p with inbound := rest, inService := some ⟨k.byte, tag, false⟩ }

/-- Port F may take a report as its oldest frame, whether or not a reply buffer is empty (R188). -/
abbrev State.offersReport (s : State) (k : RequestKind) (tag : Byte) (pl : List Byte)
    (rest : List Request) : Prop :=
  s.portF.inbound = ⟨k.byte, tag, pl⟩ :: rest ∧ s.portF.inService = none ∧
    s.store ≠ some .coldStartLoad

/-- The engine's state once a planned request has come to it (R51, R52): an idle engine starts its sweep at once. -/
def State.sweepWith (s : State) (r : PlannedRequest) : SweepEngine :=
  if s.sweep.flight = .idle then { s.sweep with flight := .planned r (s.inputs r.plan) }
  else { s.sweep with requests := s.sweep.requests ++ [r] }

/-- The engine's state once a planned sweep has completed (R52): an actual sweep comes first if one is asked for, then the
oldest planned request, and with neither the engine is IDLE. The inputs are those of the state that the event leaves. -/
def State.sweepAfterPlanned (s t : State) (asked : Bool) : SweepEngine :=
  match asked, s.sweep.requests with
  | true, _ => { s.sweep with flight := .actual (t.inputs []), actualPending := false }
  | false, r :: rest => { s.sweep with flight := .planned r (t.inputs r.plan), requests := rest }
  | false, [] => { s.sweep with flight := .idle }

/-- Actual-pending is set, or the actual sweep that it asked for has started (R50, R52). -/
def State.sweepIsAsked (t : State) : Prop :=
  t.sweep.actualPending = true ∨ t.sweep.flight = .actual (t.inputs [])

/-! ### The notices of an event -/

/-- These raises, in this order, have come to the notice queues by their routes, and nothing else of the notice states has
changed (R168 to R172). -/
abbrev State.raised (s t : State) (rs : List Raise) : Prop :=
  t.noticesS = (rs.filter routedToS).foldl (NoticePort.receive s.now) s.noticesS ∧
  t.noticesD = (rs.filter routedToD).foldl (NoticePort.receive s.now) s.noticesD

/-- Among the raises of an event, those of a kind for a subject: one with this detail if the condition holds, none if it
does not. -/
abbrev raisedWhen (rs : List Raise) (k : NoticeKind) (subject : Nat) (d : Option Detail) (cond : Prop) : Prop :=
  (cond → (⟨k, subject, d⟩ : Raise) ∈ rs) ∧
  (∀ r ∈ rs, r.kind = k → r.subject = subject → cond ∧ r.detail = d)

/-- Among the raises of an event, those of the order engine (R114). -/
def orderNews (rs : List Raise) : List Raise :=
  rs.filter (fun r => r.kind == .orderState || r.kind == .breach || r.kind == .letby)

/-- These are the notices of the order engine that the event has raised, in this order. -/
def State.tells (s t : State) (news : List Raise) : Prop := ∃ rs, s.raised t rs ∧ orderNews rs = news

/-! ### What an order does with what is passed for a step valve (R101, R107, R109, R111) -/

/-- What the order engine does with the step of a held valve when a position is passed for it. -/
inductive StepAnswer where
  /-- Nothing. -/
  | leaves
  /-- The step becomes FAILED. -/
  | fails
  /-- The step becomes CONFIRMED, and further ranks may follow (R100). -/
  | confirms
  /-- A fresh CLOSE is issued for the step. -/
  | recloses
  /-- The order becomes BREACHED, with a fresh CLOSE for the step (R107). -/
  | breaches
  /-- The step becomes REOPENED, and further ranks may follow (R110). -/
  | reopens
deriving DecidableEq, Repr

/-- The tables of R101 and R109 apply: EXECUTING before the chain is complete, and BREACHED. -/
def Order.isClosing (o : Order) : Bool := (o.state == .executing && !o.chainComplete) || o.state == .breached

/-- R107 applies: EXECUTING with the chain complete, ISOLATED and LETBY. -/
def Order.isShut (o : Order) : Bool := o.chainComplete || o.state == .isolated || o.state == .letby

/-- The table of R111 applies: RESTORING, for a step of a rank issued for reopening. -/
def Order.isReopening (o : Order) (x : Step) : Bool :=
  o.state == .restoring && o.reopening.any (fun low => decide (low ≤ x.rank))

/-- The answer to a position, with the word whether a VALVE_ASSERT withdrew a command or instruction on the way: the tables
of R101 and R109, R107, and the table of R111. -/
def Order.answer (o : Order) (x : Step) (q : Position) (withdrawn : Bool) : StepAnswer :=
  if o.isClosing then
    if q = .closed then if x.state = .issued ∨ x.state = .failed then .confirms else .leaves
    else if x.state = .confirmed then .recloses
    else if x.state = .issued ∧ withdrawn = true then .fails else .leaves
  else if o.isShut then if q = .closed then .leaves else .breaches
  else if o.isReopening x then
    if q = .open_ then
      if x.state = .issued ∨ x.state = .blocked ∨ x.state = .failed then .reopens else .leaves
    else if x.state = .issued ∧ withdrawn = true then .fails else .leaves
  else .leaves

/-- The answer to a fault (R101, R109, R111). -/
def Order.faultAnswer (o : Order) (x : Step) : StepAnswer :=
  if x.state = .issued ∧ (o.isClosing = true ∨ o.isReopening x = true) then .fails else .leaves

/-- A valve is held by an order that stands in the table, for this step of it (R77). -/
abbrev State.heldBy (s : State) (v : Valve) (o : Order) (x : Step) : Prop :=
  v.holder = some o.ref ∧ s.orderByRef? o.ref = some o ∧ o.steps.find? (fun y => y.valve == v.id) = some x

/-- No order asks anything of the valve when this position is passed for it: it has no holder, or the step's answer issues
no command. -/
abbrev State.leavesValve (s : State) (v : Valve) (q : Position) (withdrawn : Bool) : Prop :=
  ∀ o ∈ s.orders, ∀ x ∈ o.steps, s.heldBy v o x → o.answer x q withdrawn ∈ [StepAnswer.leaves, .fails]

/-- An order with the step of a valve in another state. -/
def Order.withStep (o : Order) (valve : Nat) (st : StepState) : Order :=
  { o with steps := o.steps.map (fun y => if y.valve = valve then { y with state := st } else y) }

/-- One order has become this record, and every other stands as it was. -/
abbrev State.orderBecomes (s t : State) (o y : Order) : Prop :=
  t.orders = s.orders.map (fun z => if z.slot = o.slot then y else z)

/-- The order's steps are the same valves with the same ranks, and the step named is in this state. -/
abbrev Order.stepIs (o y : Order) (x : Step) (st : StepState) : Prop :=
  y.steps.map (fun z => (z.valve, z.rank)) = o.steps.map (fun z => (z.valve, z.rank)) ∧
  (y.steps.find? (fun z => z.valve == x.valve)).map (fun z => z.state) = some st

/-- What has become of the order when its step was answered so. CONFIRMED: no step waits once all that were issued are
confirmed (R100), and with the last the chain is complete and a sweep is asked for (R102). REOPENED: no rank waits once
all that were issued are reopened (R110), and with the last the order ends DONE or CANCELLED and holds nothing (R112). -/
def State.stepAnswered (s t : State) (o : Order) (x : Step) : StepAnswer → Prop
  | .leaves => s.orderBecomes t o o
  | .fails => s.orderBecomes t o (o.withStep x.valve .failed)
  | .confirms => ∃ y ∈ t.orders, s.orderBecomes t o { o with steps := y.steps } ∧ o.stepIs y x .confirmed ∧
      (∀ z ∈ y.steps, z.state = .waiting → ∃ z' ∈ y.steps, z'.state ≠ .waiting ∧ z'.state ≠ .confirmed) ∧
      ((∀ z ∈ o.steps, z.valve = x.valve ∨ z.state = .confirmed) →
        (∀ z ∈ y.steps, z.state = .confirmed) ∧ (o.state = .executing → t.sweepIsAsked))
  | .recloses => s.orderBecomes t o (o.withStep x.valve .issued) ∨
      s.orderBecomes t o (o.withStep x.valve .confirmed)
  | .breaches => ∃ st ∈ [StepState.issued, .confirmed], s.orderBecomes t o
      { o.withStep x.valve st with state := .breached, decayDeadline := none, decayList := [] }
  | .reopens => ∃ y ∈ t.orders, s.orderBecomes t o y ∧ y.ref = o.ref ∧ o.stepIs y x .reopened ∧
      (y.state = .restoring ∨ y.state = if o.cancelling then .cancelled else .done) ∧
      (y.state = .restoring → ∃ z ∈ y.steps, y.isReopening z = true ∧ z.state ≠ .reopened) ∧
      (y.state ≠ .restoring → (∀ g ∈ t.segments, o.ref ∉ g.holders) ∧
        ∀ z ∈ o.steps, ∀ v, t.valve? z.valve = some v → v.holder ≠ some o.ref) ∧
      ((∀ z ∈ o.steps, o.isReopening z = true ∧ (z.valve = x.valve ∨ z.state = .reopened)) →
        y.state ≠ .restoring)

/-- The notices of the order engine when the step was answered so and the order is then `y` (R102, R107, R109, R112, R114). -/
def Order.news (o : Order) (x : Step) (y : Order) : StepAnswer → List Raise
  | .leaves | .fails => []
  | .confirms => if y.chainComplete then [⟨.orderState, o.ref, some .chainComplete⟩] else []
  | .recloses => if o.state = .breached then [⟨.breach, o.ref, some (.breachValve x.valve)⟩] else []
  | .breaches => [⟨.breach, o.ref, some (.breachValve x.valve)⟩,
      ⟨.orderState, o.ref, some (.orderState .breached none)⟩]
  | .reopens => if y.terminal then [⟨.orderState, o.ref, some (.orderState y.state none)⟩] else []

/-- The event has told of the answer, and of nothing else of the order engine's. -/
abbrev State.answerTold (s t : State) (o : Order) (x : Step) (a : StepAnswer) : Prop :=
  ∀ y, t.order? o.slot = some y → s.tells t (o.news x y a)

/-- A valve whose order has ended and released it (R77, R112). -/
def Valve.released (v : Valve) : Valve := { v with holder := none, outstanding := none }

/-- A valve for which a command or an instruction has been taken and not answered as done at once (R64, R72). A REMOTE valve
in travel towards the target stays so; any other awaits pull, with its command in the queue or pending. -/
def Valve.commanded (v : Valve) (a : Action) (now : Nat) (pending : Option Action) : Valve :=
  match v.kind with
  | .manual => { v with outstanding := some a }
  | .remote =>
    if v.window ≠ none ∧ v.position = a.travel then v
    else { v with
      prior := some (if v.window ≠ none then .unknown else v.prior.getD v.position), window := none
      pendingCmd := pending, position := a.travel
      lastChange := if v.position = a.travel then v.lastChange else now }

/-- A step valve for which the event has issued this action: it is as commanded, and a crew is told of an instruction for a
MANUAL one (R72, R100, R110). -/
abbrev State.stepIssued (s t : State) (rs : List Raise) (a : Action) (holder : Nat) (v : Valve) : Prop :=
  (∃ pending ∈ [none, some a],
    t.valve? v.id = some (({ v with holder := some holder } : Valve).commanded a s.now pending)) ∧
  (v.kind = .manual → ⟨.crewInstruction, v.id, some (.instruction a.instruction)⟩ ∈ rs)

/-- A valve has a CLOSE in hand that an order can withdraw: it awaits pull, or is the outstanding instruction (R79). -/
def Valve.hasCloseInHand (v : Valve) : Bool :=
  (v.prior.isSome && v.position == .closing) || v.outstanding == some .close

/-- A valve whose CLOSE in hand has been withdrawn (R79): a REMOTE valve is back at rest in its prior position. -/
def Valve.withdrawn (v : Valve) (now : Nat) : Valve :=
  match v.prior with
  | some q => { v with prior := none, pendingCmd := none, position := q, lastChange := now }
  | none => { v with outstanding := none }

/-- The crew of a withdrawn instruction has been told HOLD (R79). -/
abbrev holdTold (rs : List Raise) (v : Valve) : Prop :=
  v.outstanding = some .close → ⟨.crewInstruction, v.id, some (.instruction .hold)⟩ ∈ rs

/-- What has become of the valve of a step that a cancel drops (R113): the CLOSE in hand of an ISSUED step is withdrawn, and
the valve is released; another command of a REMOTE valve stands (R77), and a pending one may have joined the queue (R66). -/
abbrev State.stepDropped (s t : State) (rs : List Raise) (x : Step) (v : Valve) : Prop :=
  (x.state = .issued → v.hasCloseInHand = true →
    t.valve? v.id = some (v.withdrawn s.now).released ∧ holdTold rs v) ∧
  (¬ (x.state = .issued ∧ v.hasCloseInHand = true) →
    ∃ pending ∈ [none, v.pendingCmd], t.valve? v.id = some { v.released with pendingCmd := pending })

/-- What has become of a valve that an event leaves as `y` and whose position is then passed to a holder's order: it stays
so if the order issues no command, or commands other valves (R100, R110); it is released with them if the order ends; and
a fresh CLOSE is issued for it where the order asks for one (R101, R107). -/
abbrev State.valveBecomes (s t : State) (v y : Valve) (q : Position) (withdrawn : Bool) : Prop :=
  (s.leavesValve v q withdrawn → t.valve? v.id = some y) ∧
  (s.valvesSound → s.ordersSound → ∀ o ∈ s.orders, ∀ x ∈ o.steps, s.heldBy v o x →
    (o.answer x q withdrawn ∈ [StepAnswer.confirms, .reopens] →
      t.valve? v.id = some (if (t.order? o.slot).any Order.terminal = true then y.released else y)) ∧
    (o.answer x q withdrawn ∈ [StepAnswer.recloses, .breaches] → y.window = none → y.prior = none →
      ∃ pending ∈ [none, some Action.close], t.valve? v.id = some (y.commanded .close s.now pending)))

/-- The step that an order reopens with a valve is BLOCKED once a count has risen that withdraws the OPEN in hand (R81,
R111). -/
abbrev State.blocksSteps (s t : State) : Prop :=
  ∀ o ∈ s.orders, ∀ x ∈ o.steps, ∀ v ∈ s.valves, s.heldBy v o x → o.isReopening x = true → x.state = .issued →
    v.hasOpenInHand = true → t.interlocked v = true →
      (t.order? o.slot).any (fun y => y.steps.any (fun z => z.valve == v.id && z.state == .blocked)) = true

/-- The position in which a POSITION_REPORT leaves a REMOTE valve (R69): the target of a command that it meets, FAULT for one
met before its earliest time, the reported position of a valve at rest. -/
def Valve.positionAfter (v : Valve) (now reported : Nat) : Position :=
  if v.window ≠ none ∨ v.prior ≠ none then
    if (v.position = .opening ∧ reported = 1) ∨ (v.position = .closing ∧ reported = 2) then
      if v.window.any (fun t => decide (now < t.1)) then .fault
      else if reported = 1 then .open_ else .closed
    else v.position
  else if v.position = .fault then .fault
  else if reported = 1 then .open_ else if reported = 2 then .closed else .unknown

/-! ### Boundary expansion (R91) -/

/-- The boundary of a region: the valves with exactly one end in it that are not CLOSED. -/
def Picture.rim (pic : Picture) (region : List Nat) : List Valve :=
  pic.valves.filter (fun v => v.position != .closed &&
    ((match v.endA with | .segment i => region.contains i | .source _ => false) !=
     (match v.endB with | .segment i => region.contains i | .source _ => false)))

/-- A valve that no step can name: inoperable, or in FAULT. -/
abbrev Valve.unfit (v : Valve) : Prop := v.operable = false ∨ v.position = .fault

/-- The boundary valve past which the expansion goes: the lowest-numbered unfit one. -/
abbrev Picture.passesBy (pic : Picture) (region : List Nat) (v : Valve) : Prop :=
  v ∈ pic.rim region ∧ v.unfit ∧ ∀ u ∈ pic.rim region, u.unfit → v.id ≤ u.id

/-- The expansion of a region, with the region and steps that it ends with, or none where it fails. -/
inductive Picture.Expands (pic : Picture) : List Nat → Option (List Nat × List Step) → Prop where
  /-- No boundary valve is unfit, and there are 1 to 32 of them: they are the steps. -/
  | settles {region : List Nat} (fit : ∀ v ∈ pic.rim region, ¬ v.unfit)
      (size : 1 ≤ (pic.rim region).length ∧ (pic.rim region).length ≤ 32) :
      Picture.Expands pic region (some (region, (pic.rim region).map (fun v => ⟨v.id, 0, .waiting⟩)))
  /-- No boundary valve is unfit, and there is none, or more than 32: the expansion fails. -/
  | wrongSize {region : List Nat} (fit : ∀ v ∈ pic.rim region, ¬ v.unfit)
      (size : pic.rim region = [] ∨ 32 < (pic.rim region).length) : Picture.Expands pic region none
  /-- Past the valve lies a source: the expansion fails. -/
  | atSource {region : List Nat} {v : Valve} {q : Nat} (at_ : pic.passesBy region v)
      (past : v.endA = .source q ∨ v.endB = .source q) : Picture.Expands pic region none
  /-- Past the valve lies a segment that would be the region's 17th: the expansion fails. -/
  | tooWide {region : List Nat} {v : Valve} {i : Nat} (at_ : pic.passesBy region v)
      (past : v.endA = .segment i ∨ v.endB = .segment i) (new : i ∉ region) (full : 16 ≤ region.length) :
      Picture.Expands pic region none
  /-- Past the valve lies a segment that joins the region, whose numbers ascend (R87), and the expansion goes on. -/
  | widens {region wider : List Nat} {v : Valve} {i : Nat} {out : Option (List Nat × List Step)}
      (at_ : pic.passesBy region v) (past : v.endA = .segment i ∨ v.endB = .segment i) (new : i ∉ region)
      (room : region.length < 16) (ascends : wider.Pairwise (· < ·))
      (joined : ∀ j, j ∈ wider ↔ j = i ∨ j ∈ region) (rest : Picture.Expands pic wider out) :
      Picture.Expands pic region out

/-! ### What a publication does (R102, R103, R106, R108, R109, R148) -/

/-- An order after a publication of this supplied set: the start of its decay window, its abandonment, ISOLATED without a
channel to verify it, or BREACHED. -/
def Picture.orderPublished (pic : Picture) (supplied : List Nat) (o : Order) : Order :=
  let off := o.region.all (fun i => !supplied.contains i)
  let list := o.region.flatMap (fun i =>
    (pic.channels.filter (fun c => c.segment = i ∧ c.vent ≠ 0)).map
      (fun c => (⟨c.unit, c.index, false⟩ : DecayEntry)))
  let isolated : Order :=
    { o with state := .isolated, verification := some .unconfirmed, decayDeadline := none, decayList := [] }
  match o.state with
  | .executing =>
    if o.decayDeadline ≠ none then
      if off then o else { o with decayDeadline := none, decayList := [] }
    else if o.chainComplete && off then
      if list = [] then isolated
      else { o with decayDeadline := some (pic.now + pic.timing.decayWindow), decayList := list }
    else o
  | .isolated | .letby => if off then o else { o with state := .breached }
  | .breached => if off && o.steps.all (fun x => x.state == .confirmed) then isolated else o
  | .proposed | .restoring | .done | .cancelled | .expired => o

/-- The notices with which an order reacts to a publication of this supplied set (R103, R108, R109): BREACH with the lowest
supplied region segment, then ORDER_STATE; or ISOLATED with its result. -/
def Picture.publishedNews (pic : Picture) (supplied : List Nat) (o : Order) : List Raise :=
  let st := (pic.orderPublished supplied o).state
  if st = o.state then []
  else if st = .isolated then [⟨.orderState, o.ref, some (.orderState .isolated (some .unconfirmed))⟩]
  else (o.region.find? (fun i => supplied.contains i)).toList.map (fun i =>
      ⟨.breach, o.ref, some (.breachSegment i)⟩) ++
    [⟨.orderState, o.ref, some (.orderState st none)⟩]

/-- The order that a segment is lost to when a publication takes it off (R148): the committed order in the lowest slot whose
expected-off set holds it. -/
def Picture.lossOwner (pic : Picture) (segment : Nat) : Option Order :=
  pic.orders.find? (fun o => o.expectedOff.contains segment && (o.state == .executing ||
    o.state == .isolated || o.state == .letby || o.state == .breached))

/-- The cause of a segment that a publication takes off (R148): its order, else none that was planned. -/
def Picture.lossCause (pic : Picture) (segment : Nat) : Cause :=
  (pic.lossOwner segment).elim .unplanned (fun o => .order o.ref)

/-- The causes among the segments that a publication takes off for which a record must be opened, in the order of their
groups (R149): ORDER causes in ascending slot that no open record has, then UNPLANNED. -/
def Picture.causesToOpen (pic : Picture) (lost : List Segment) : List Cause :=
  let owners := pic.orders.filter (fun o => lost.any (fun g => (pic.lossOwner g.id).any (fun x => x.slot == o.slot)))
  (((owners.map (fun o => Cause.order o.ref)).filter (fun c =>
      !pic.outages.any (fun a => a.isOpen && a.cause == c))).eraseDups) ++
    (if lost.any (fun g => pic.lossCause g.id == .unplanned) then [.unplanned] else [])

/-! ### What pressure does to orders and calls (R104, R123 to R125) -/

/-- An order after the readings of a report, of which `met` tells the channels whose new F is at or below their vent level
(R104): marks are set in its decay list, and with the last it is ISOLATED and VERIFIED. -/
def Order.afterReadings (o : Order) (met : Nat → Nat → Bool) : Order :=
  let list := o.decayList.map (fun e => { e with met := e.met || met e.unit e.index })
  if o.decayDeadline = none ∨ o.decayList.all (fun e => !met e.unit e.index) = true then o
  else if list.all (fun e => e.met) then
    { o with state := .isolated, verification := some .verified, decayDeadline := none, decayList := [] }
  else { o with decayList := list }

/-- A call's class once evaluated (R123): raised one step above the reported class where the segment corroborates, and
never lowered. -/
def Call.evaluatedClass (c : Call) (corroborates : Bool) : CallClass :=
  let candidate : CallClass :=
    if corroborates then (match c.reported with | .a => .a | .b => .a | .c => .b) else c.reported
  if candidate.rank < c.effective.rank then candidate else c.effective

/-- The deadline that a raise to a class forms for a call in NEW or ASSIGNED (R124). -/
def Call.deadlineRaisedTo (c : Call) (timing : Timing) (cls : CallClass) : Option Nat :=
  match c.state with
  | .new => c.deadline.map (fun d => min d (c.first + timing.attend cls))
  | .assigned => c.deadline.map (fun d => min d (c.first + timing.onSite cls))
  | .onSite | .madeSafe | .closed => c.deadline

/-- The deadline that a raise to a class forms has come, and expires at once (R130, R131). -/
def Picture.raiseIsOverdue (pic : Picture) (c : Call) (cls : CallClass) : Bool :=
  (c.deadlineRaisedTo pic.timing cls).any (fun d => decide (d ≤ pic.now))

/-- An open call once evaluated (R123, R124): at a merge, or after its segment's summary or FALLING flag has changed. A raise
forms a deadline, which expires at once if it has come (R131). -/
def Picture.callEvaluated (pic : Picture) (corroborates : Bool) (c : Call) : Call :=
  let cls := c.evaluatedClass corroborates
  let marked := { c with effective := cls, corroborated := c.corroborated || corroborates }
  if cls = c.effective then marked
  else if pic.raiseIsOverdue c cls then
    { marked with level := min (c.level + 1) 3, deadline := some (pic.now + pic.timing.escalation) }
  else { marked with deadline := c.deadlineRaisedTo pic.timing cls }

/-- Every open call on a segment whose summary or FALLING flag has changed is evaluated, with CALL_RAISED where its class
rises, CALL_OVERDUE where its deadline then expires, and the segment's count (R38, R123 to R125); every other call stands
as it was. -/
abbrev State.callsEvaluated (s t : State) (rs : List Raise) : Prop :=
  (∀ c ∈ s.calls, ∀ g ∈ s.segments, ∀ h ∈ t.segments, g.id = c.segment → h.id = c.segment →
    let y := s.callEvaluated (h.summary == .low || h.falling) c
    if (g.summary ≠ h.summary ∨ g.falling ≠ h.falling) ∧ c.state ≠ .closed then
      t.call? c.slot = some y ∧
      (y.effective ≠ c.effective → ⟨.callRaised, c.ref, some (.callClass y.effective)⟩ ∈ rs) ∧
      (y.effective ≠ c.effective → s.raiseIsOverdue c y.effective = true →
        ⟨.callOverdue, c.ref, some (.level y.level)⟩ ∈ rs)
    else t.call? c.slot = some c) ∧
  (∀ r ∈ rs, r.kind = .callRaised → ∃ c ∈ s.calls, c.ref = r.subject ∧
    (t.call? c.slot).any (fun y => y.effective != c.effective) = true) ∧
  (∀ r ∈ rs, r.kind = .callOverdue → ∃ c ∈ s.calls, c.ref = r.subject ∧
    (t.call? c.slot).any (fun y => y.effective != c.effective && s.raiseIsOverdue c y.effective) = true) ∧
  ∀ g ∈ s.segments, (t.segment? g.id).map (fun h => h.unsafeA) = some (g.unsafeA +
    (s.calls.filter (fun c => c.segment == g.id && c.isUnsafe && c.effective != .a &&
      (t.call? c.slot).any (fun y => y.effective == .a))).length)

/-- The command that takes a request of a kind on a port; PORT_RESET is never taken from an inbound store (R184). -/
def requestCommand : RequestKind → Port → Option Instr
  | .status, p => some (.status p) | .portReset, _ => none
  | .readTable, p => some (.readTable p) | .pullNotice, p => some (.pullNotice p)
  | .setNoticeMask, p => some (.setNoticeMask p) | .proposeIsolation, p => some (.proposeIsolation p)
  | .commitOrder, p => some (.commitOrder p) | .cancelOrder, p => some (.cancelOrder p)
  | .beginRestore, p => some (.beginRestore p) | .valveOperate, p => some (.valveOperate p)
  | .valveAssert, p => some (.valveAssert p) | .valveMark, p => some (.valveMark p)
  | .setSource, p => some (.setSource p) | .crewValveReport, p => some (.crewValveReport p)
  | .logCall, p => some (.logCall p) | .nextCall, p => some (.nextCall p)
  | .assignCall, p => some (.assignCall p) | .callProgress, p => some (.callProgress p)
  | .purgeReport, p => some (.purgeReport p) | .relightReport, p => some (.relightReport p)
  | .storeRead, p => some (.storeRead p) | .storeWrite, p => some (.storeWrite p)
  | .reload, p => some (.reload p) | .unitReport, p => some (.unitReport p)
  | .positionReport, p => some (.positionReport p) | .pullCommand, p => some (.pullCommand p)

/-- A number in a field of a given width, most significant byte first (R181). -/
def bytesOf (width n : Nat) : List Byte :=
  (List.range width).map (fun i => BitVec.ofNat 8 (n / 256 ^ (width - 1 - i)))

/-! ### What a model image is (R197, R198) -/

/-- A record of a model image: the code of its tag, and its body (R197). -/
abbrev ImageRecord := Nat × List Byte

/-- The records as the image carries them: tag, length and body of each (R197). -/
def imageBytes (recs : List ImageRecord) : List Byte :=
  recs.flatMap (fun r => bytesOf 1 r.1 ++ bytesOf 1 r.2.length ++ r.2)

/-- The lengths of the tags (R197). -/
abbrev tagHasLength (tag len : Nat) : Prop :=
  (tag, len) ∈ [(0x01, 19), (0x02, 5), (0x03, 12), (0x04, 2), (0x05, 5), (0x06, 26), (0x07, 3), (0x0F, 2)] ∨
    (tag = 0x08 ∧ len % 5 = 0 ∧ 5 ≤ len ∧ len ≤ 80)

/-- The record count that the image's HDR gives (R197). -/
def imageCount (recs : List ImageRecord) : Nat := recs.head?.elim 0 (fun r => u16 r.2 1)

/-- These are the first records of the flash, and each passes the walk (R198, check 1): its tag and length, the address
space, HDR first and only there with version 1, END only as the last of the count. That an END elsewhere, and a record that
runs past the flash, are what fails is log entry 25's. -/
abbrev walks (m : List Host.Cell) (recs : List ImageRecord) : Prop :=
  (imageBytes recs).length ≤ 65536 ∧
  (List.range (imageBytes recs).length).map (flashRead m) = imageBytes recs ∧
  (∀ r ∈ recs, tagHasLength r.1 r.2.length) ∧
  (∀ x ∈ recs.zipIdx, (x.1.1 = 0x01 ↔ x.2 = 0) ∧ (x.1.1 = 0x01 → u8 x.1.2 0 = 1) ∧
    (x.1.1 = 0x0F → x.2 + 1 = recs.length ∧ recs.length = imageCount recs))

/-- These are the records of an image that passes the walk to its END (R198, check 1). -/
abbrev formatted (m : List Host.Cell) (recs : List ImageRecord) : Prop :=
  walks m recs ∧ ∃ r ∈ recs, r.1 = 0x0F

/-- The walk fails at this record: those before it pass, and no record that passes stands next (R198, check 1; for an END at a
wrong number and a record that runs past the flash log entry 25). -/
def formatFails (m : List Host.Cell) (n : Nat) : Prop :=
  ∃ recs : List ImageRecord, recs.length = n ∧ walks m recs ∧ (∀ r ∈ recs, r.1 ≠ 0x0F) ∧
    ∀ r, ¬ walks m (recs ++ [r])

/-- END's CRC is that of every byte from the HDR tag to the END length byte (R197, R198). -/
abbrev crcStands (recs : List ImageRecord) : Prop :=
  ∀ r ∈ recs.getLast?,
    u16 r.2 0 = (crc16 ((imageBytes recs).take ((imageBytes recs).length - 2))).toNat

/-- The items of a TIMING record: code and value (R197). -/
def itemsOf (r : ImageRecord) : List (Nat × Nat) :=
  if r.1 = 0x08 then (List.range (r.2.length / 5)).map (fun k => (u8 r.2 (5 * k), u32 r.2 (5 * k + 1))) else []

/-- The value of a TIMING item in force: the image's, or the default (R197); several TIMING records are taken together (log entry
25). -/
def inForce (recs : List ImageRecord) (item default : Nat) : Nat :=
  ((recs.flatMap itemsOf).find? (fun x => x.1 == item)).elim default (fun x => x.2)

/-- An id in its field: a link names a unit or a source, or 0xFF none (R197). -/
def linkFrom (n : Nat) : Option Nat := if n = 0xFF then none else some n

/-- The end that a VLV record gives at a place of its body: segment 1, source 2 (R197). -/
def endFrom (b : List Byte) (i : Nat) : End :=
  if u8 b i = 1 then .segment (u8 b (i + 1)) else .source (u8 b (i + 1))

/-- The ids, indices, codes and values of a record lie in their ranges (R2, R4, R7, R9, R10, R197, R198); those of a PERMIT are
the codes of the request kinds (log entry 25). -/
abbrev inRange (r : ImageRecord) : Prop :=
  let b := r.2
  (r.1 = 0x02 → u8 b 1 ∈ [1, 2, 3] ∧ u8 b 4 ≤ 1) ∧
  (r.1 = 0x03 → u16 b 0 ≤ 511 ∧ (∀ i ∈ [2, 4], u8 b i = 1 ∨ (u8 b i = 2 ∧ u8 b (i + 1) ≤ 15)) ∧
    ((u8 b 6 = 1 ∧ u16 b 7 = 0 ∧ u16 b 9 = 0) ∨
      (u8 b 6 = 2 ∧ 1 ≤ u16 b 7 ∧ u16 b 7 < u16 b 9 ∧ u16 b 9 ≤ 600)) ∧
    (u8 b 11 = 1 ∨ u8 b 11 = 2)) ∧
  (r.1 = 0x04 → u8 b 0 ≤ 15 ∧ (u8 b 1 ≤ 63 ∨ u8 b 1 = 0xFF)) ∧
  (r.1 = 0x05 → u8 b 0 ≤ 63 ∧ (u16 b 1 = 0 ∨ (10 ≤ u16 b 1 ∧ u16 b 1 ≤ 3600)) ∧
    1 ≤ u8 b 3 ∧ u8 b 3 ≤ 4 ∧ (u8 b 4 ≤ 15 ∨ u8 b 4 = 0xFF)) ∧
  (r.1 = 0x06 → u8 b 0 ≤ 63 ∧ u8 b 1 ≤ 3 ∧ 1 ≤ u16 b 5 ∧ u8 b 7 ≤ 4 ∧
    ∀ i ∈ [8, 11, 14, 17, 20, 23], u24 b i ≤ 1048575) ∧
  (r.1 = 0x07 → u8 b 0 ∈ defaultGrants.map (fun g => g.kind.code) ∧ u8 b 1 ≤ 1 ∧ u8 b 2 ≤ 1) ∧
  (∀ x ∈ itemsOf r, (1 ≤ x.1 ∧ x.1 ≤ 10 ∧ 1 ≤ x.2 ∧ x.2 ≤ 604800) ∨ (x.1 = 11 ∧ 5 ≤ x.2 ∧ x.2 ≤ 300) ∨
    (x.1 ∈ [12, 13] ∧ x.2 ≤ 16776960))

/-- What a record names that no other may name: its id, its channel, its kind, or its items, those of all TIMING records taken
together (R198, DUPLICATE; log entry 25). -/
def namesOf (r : ImageRecord) : List (Nat × Nat) :=
  if r.1 = 0x03 then [(r.1, u16 r.2 0)]
  else if r.1 = 0x06 then [(r.1, 4 * u8 r.2 0 + u8 r.2 1)]
  else if r.1 ∈ [0x02, 0x04, 0x05, 0x07] then [(r.1, u8 r.2 0)]
  else (itemsOf r).map (fun x => (r.1, x.1))

/-- LoExit and HiExit after the load-time clamps (R198, LIMITS). -/
def clampedLoExit (b : List Byte) : Nat := max (u24 b 11) (u24 b 8)
def clampedHiExit (b : List Byte) : Nat := min (u24 b 14) (u24 b 17)

/-- The kinds whose marks a model may change (R157). -/
def grantableKinds : List RequestKind :=
  [.readTable, .pullNotice, .proposeIsolation, .cancelOrder, .valveAssert, .setSource, .crewValveReport, .purgeReport,
    .relightReport]

/-- A record fails one of the per-record checks (R198, check 3). -/
def recordFails (recs : List ImageRecord) (n : Nat) (r : ImageRecord) : Reason → Prop
  | .range => ¬ inRange r
  | .duplicate => ¬ ((recs.take (n + 1)).flatMap namesOf).Pairwise (· ≠ ·)
  | .ends => r.1 = 0x03 ∧ (endFrom r.2 2 = endFrom r.2 4 ∨ (u8 r.2 2 = 2 ∧ u8 r.2 4 = 2))
  | .permit => r.1 = 0x07 ∧ ∀ k ∈ grantableKinds, u8 r.2 0 ≠ k.code
  | .limits => r.1 = 0x06 ∧ clampedHiExit r.2 ≤ clampedLoExit r.2
  | .format | .crc | .reference | .channels | .link | .timing | .orphan => False

/-- There is a record of this tag with this id. -/
abbrev hasRecord (recs : List ImageRecord) (tag id : Nat) : Prop := ∃ r ∈ recs, r.1 = tag ∧ u8 r.2 0 = id

/-- An end names a record. -/
abbrev hasEnd (recs : List ImageRecord) (e : End) : Prop :=
  ∃ r ∈ recs, (r.1 = 0x02 ∧ e = .segment (u8 r.2 0)) ∨ (r.1 = 0x04 ∧ e = .source (u8 r.2 0))

/-- A segment record as placed in service (R2, R3). -/
def placedSegment (recs : List ImageRecord) (b : List Byte) : Segment :=
  { id := u8 b 0, tier := if u8 b 1 = 1 then .ip else if u8 b 1 = 2 then .mp else .lp
    customers := u16 b 2, priority := decide (u8 b 4 = 1)
    summary := if recs.any (fun r => r.1 == 0x06 && u8 r.2 2 == u8 b 0) then .unknown else .noChannel
    falling := false, supply := .live, relit := 0, outage := none, holders := [], unsafeA := 0 }

/-- A valve record as placed in service (R4, R6). -/
def placedValve (now : Nat) (b : List Byte) : Valve :=
  { id := u16 b 0, endA := endFrom b 2, endB := endFrom b 4
    kind := if u8 b 6 = 2 then .remote else .manual
    travel := if u8 b 6 = 2 then some (u16 b 7, u16 b 9) else none
    normal := if u8 b 11 = 1 then .open_ else .closed
    position := .unknown, operable := true, holder := none, pendingCmd := none, window := none
    lastChange := now, prior := none, outstanding := none }

/-- A source record as placed in service (R7). -/
def placedSource (b : List Byte) : Source := ⟨u8 b 0, linkFrom (u8 b 1), .live, none⟩

/-- A unit record as placed in service, with the default watch timeout for 0 (R9). -/
def placedUnit (now : Nat) (b : List Byte) : FieldUnit :=
  let timeout := if u16 b 1 = 0 then 300 else u16 b 1
  { id := u8 b 0, timeout := timeout, channelCount := u8 b 3, source := linkFrom (u8 b 4)
    watch := .silent, deadline := now + timeout, tripped := false, lastReport := none }

/-- A channel record as placed in service, with its limits clamped (R10, R11, R198). -/
def placedChannel (b : List Byte) : Channel :=
  { unit := u8 b 0, index := u8 b 1, segment := u8 b 2, zero := u16 b 3, gain := u16 b 5, shift := u8 b 7
    loEnter := u24 b 8, loExit := clampedLoExit b, hiExit := clampedHiExit b, hiEnter := u24 b 17
    fallLimit := u24 b 20, vent := u24 b 23, raw := none, p := none, f := none, state := .unknown
    underRange := false, overRange := false, falling := false, updated := none, lowPending := false }

/-- The bodies of the records of a tag, in record order. -/
def bodiesOf (recs : List ImageRecord) (tag : Nat) : List (List Byte) :=
  (recs.filter (fun r => r.1 == tag)).map (fun r => r.2)

/-- A segment is reached from a source with every valve passing (R198, ORPHAN). -/
def reachedByAll (recs : List ImageRecord) (id : Nat) : Prop :=
  Reach ((bodiesOf recs 0x03).map (placedValve 0)) ((bodiesOf recs 0x02).map (fun b => u8 b 0))
    ((bodiesOf recs 0x04).map (fun b => u8 b 0)) id

/-- A TIMING record gives E1 or E2. -/
def givesLimits (r : ImageRecord) : Bool := (itemsOf r).any (fun x => x.1 == 12 || x.1 == 13)

/-- A record is the one at which a cross-record check fails (R198, check 4; for TIMING log entry 25). -/
def crossFails (recs : List ImageRecord) (n : Nat) (r : ImageRecord) : Reason → Prop
  | .reference =>
    (r.1 = 0x03 ∧ ¬ (hasEnd recs (endFrom r.2 2) ∧ hasEnd recs (endFrom r.2 4))) ∨
    (r.1 = 0x04 ∧ ∃ u ∈ linkFrom (u8 r.2 1), ¬ hasRecord recs 0x05 u) ∨
    (r.1 = 0x05 ∧ ∃ q ∈ linkFrom (u8 r.2 4), ¬ hasRecord recs 0x04 q) ∨
    (r.1 = 0x06 ∧ ¬ (hasRecord recs 0x05 (u8 r.2 0) ∧ hasRecord recs 0x02 (u8 r.2 2)))
  | .channels =>
    (r.1 = 0x06 ∧ ((∃ u ∈ recs, u.1 = 0x05 ∧ u8 u.2 0 = u8 r.2 0 ∧ u8 u.2 3 ≤ u8 r.2 1) ∨
      4 ≤ ((recs.take n).filter (fun c => c.1 == 0x06 && u8 c.2 2 == u8 r.2 2)).length)) ∨
    (r.1 = 0x05 ∧ ∃ i < u8 r.2 3, ∀ c ∈ recs, ¬ (c.1 = 0x06 ∧ u8 c.2 0 = u8 r.2 0 ∧ u8 c.2 1 = i))
  | .link =>
    (r.1 = 0x04 ∧ ∃ u ∈ recs, u.1 = 0x05 ∧ linkFrom (u8 r.2 1) = some (u8 u.2 0) ∧ u8 u.2 4 ≠ u8 r.2 0) ∨
    (r.1 = 0x05 ∧ ∃ q ∈ recs, q.1 = 0x04 ∧ linkFrom (u8 r.2 4) = some (u8 q.2 0) ∧ u8 q.2 1 ≠ u8 r.2 0)
  | .timing => givesLimits r = true ∧ (∀ x ∈ recs.take n, givesLimits x = false) ∧
      inForce recs 13 2000 < inForce recs 12 200
  | .orphan => r.1 = 0x02 ∧ ¬ reachedByAll recs (u8 r.2 0) ∧
      ∀ g ∈ recs, g.1 = 0x02 → u8 g.2 0 < u8 r.2 0 → reachedByAll recs (u8 g.2 0)
  | .format | .crc | .range | .duplicate | .ends | .permit | .limits => False

/-- No record fails a check of this kind. -/
def noneFails (recs : List ImageRecord) (fails : List ImageRecord → Nat → ImageRecord → Reason → Prop) : Prop :=
  ∀ x ∈ recs.zipIdx, ∀ why, ¬ fails recs x.2 x.1 why

/-- The first failure of these checks: in record order, and at a record in the order of the reasons' codes (R198). -/
def firstFails (recs : List ImageRecord) (fails : List ImageRecord → Nat → ImageRecord → Reason → Prop)
    (n : Nat) (why : Reason) : Prop :=
  ∃ r, recs[n]? = some r ∧ fails recs n r why ∧ (∀ w, w.code < why.code → ¬ fails recs n r w) ∧
    ∀ x ∈ (recs.take n).zipIdx, ∀ w, ¬ fails recs x.2 x.1 w

/-- The image is good, and these are its records (R198). -/
def goodImage (m : List Host.Cell) (recs : List ImageRecord) : Prop :=
  formatted m recs ∧ crcStands recs ∧ noneFails recs recordFails ∧ noneFails recs crossFails

/-- The image fails at this record for this reason, by the checks in their order (R198). -/
def badImage (m : List Host.Cell) (n : Nat) (why : Reason) : Prop :=
  (why = .format ∧ formatFails m n) ∨ ∃ recs, formatted m recs ∧
    ((why = .crc ∧ n + 1 = recs.length ∧ ¬ crcStands recs) ∨
     (crcStands recs ∧ firstFails recs recordFails n why) ∨
     (crcStands recs ∧ noneFails recs recordFails ∧ firstFails recs crossFails n why))

/-- The timing values of an image, each with its default (R118, R93, R103, R160, R165, R197). -/
def placedTiming (recs : List ImageRecord) : Timing :=
  { mergeWindow := inForce recs 1 1800
    attendA := inForce recs 2 120, attendB := inForce recs 3 600, attendC := inForce recs 4 3600
    onSiteA := inForce recs 5 3600, onSiteB := inForce recs 6 7200, onSiteC := inForce recs 7 86400
    escalation := inForce recs 8 300, decayWindow := inForce recs 9 600, proposalLifetime := inForce recs 10 900
    presenceTimeout := inForce recs 11 30, e1 := inForce recs 12 200, e2 := inForce recs 13 2000 }

/-! ### What READ_TABLE shows (R14 to R21; log entries 12 to 15, 34, 38 and 41) -/

/-- A list of a record (R14): its page size, the bytes of its count (R182), and its entries in their order. -/
structure ShownList where
  page    : Nat
  width   : Nat
  entries : List (List Byte)
deriving DecidableEq, Repr

/-- A record: the slot and the reference in bytes where the table has them, its fields, its lists (R15 to R18). -/
structure Shown where
  slot   : List Byte
  ref    : List Byte
  fields : List Byte
  lists  : List ShownList
deriving DecidableEq, Repr

/-- A list whose entries are numbers. -/
def numbers (page width bytes : Nat) (ns : List Nat) : ShownList := ⟨page, width, ns.map (bytesOf bytes)⟩

/-- A record without slot and reference, its list lengths last among its fields (R15). -/
def plain (fields : List Byte) (lists : List ShownList) : Shown :=
  ⟨[], [], fields ++ (lists.map (fun l => bytesOf 2 l.entries.length)).flatten, lists⟩

/-- A record with slot and reference, which stand first among its fields too (R15, R18). -/
def placed (slot ref : Nat) (fields : List Byte) (lists : List ShownList) : Shown :=
  ⟨bytesOf 1 slot, bytesOf 2 ref,
    bytesOf 1 slot ++ bytesOf 2 ref ++ fields ++
      (lists.map (fun l => bytesOf 2 l.entries.length)).flatten, lists⟩

/-- An end of a valve, marked segment 1 or source 2. -/
def endBytes : End → List Byte
  | .segment i => [1#8] ++ bytesOf 1 i
  | .source i => [2#8] ++ bytesOf 1 i

/-- SEGMENT (R17; for HOLDERS after a wrap log entry 36). -/
def Picture.shownSegment (pic : Picture) (g : Segment) : Shown :=
  let holding := (pic.orders.filter (fun o => g.holders.contains o.ref)).map (fun o => o.ref)
  plain (bytesOf 1 g.id ++ bytesOf 1 g.tier.code ++ bytesOf 3 g.customers ++ encFlag g.priority ++
      bytesOf 1 g.summary.code ++ encFlag g.falling ++ bytesOf 1 g.supply.code ++ bytesOf 2 g.relit ++
      encOpt 2 (bytesOf 2) g.outage ++ bytesOf 1 g.unsafeA ++ bytesOf 1 g.holders.length)
    [numbers 100 2 2 ((pic.valves.filter (fun v =>
        v.endA = .segment g.id ∨ v.endB = .segment g.id)).map (fun v => v.id)),
      numbers 4 1 1 ((pic.channels.filter (fun c => c.segment = g.id)).map (fun c => 4 * c.unit + c.index)),
      numbers 16 1 2 holding]

/-- VALVE (R17; for the two pairs log entry 41). -/
def Picture.shownValve (pic : Picture) (v : Valve) : Shown :=
  let action := encOpt 1 (fun a : Action => bytesOf 1 a.code)
  let queued := (pic.cmdQueue.find? (fun e => e.valve = v.id)).map (fun e => e.action)
  plain (bytesOf 2 v.id ++ endBytes v.endA ++ endBytes v.endB ++ bytesOf 1 v.kind.code ++
      encOpt 4 encTime (v.travel.map (fun w => w.1)) ++ encOpt 4 encTime (v.travel.map (fun w => w.2)) ++
      bytesOf 1 v.normal.code ++ bytesOf 1 v.position.code ++ encFlag (decide (v.position ≠ v.normal)) ++
      encFlag v.operable ++ encOpt 2 (bytesOf 2) v.holder ++ action v.pendingCmd ++ action queued ++
      encOpt 4 encTime (v.window.map (fun w => w.1)) ++ encOpt 4 encTime (v.window.map (fun w => w.2)) ++
      encTime v.lastChange) []

/-- SOURCE (R17). -/
def Picture.shownSource (pic : Picture) (q : Source) : Shown :=
  plain (bytesOf 1 q.id ++ encOpt 1 (bytesOf 1) q.unit ++ bytesOf 1 q.state.code ++
      encOpt 1 (fun c : OutCause => bytesOf 1 c.code) q.cause)
    [numbers 100 2 2 ((pic.valves.filter (fun v =>
      v.endA = .source q.id ∨ v.endB = .source q.id)).map (fun v => v.id))]

/-- UNIT (R19). -/
def shownUnit (u : FieldUnit) : Shown :=
  plain (bytesOf 1 u.id ++ encTime u.timeout ++ bytesOf 1 u.channelCount ++
    encOpt 1 (bytesOf 1) u.source ++ bytesOf 1 u.watch.code ++ encTime u.deadline ++ encFlag u.tripped) []

/-- CHANNEL (R19). -/
def shownChannel (c : Channel) : Shown :=
  plain (bytesOf 1 c.unit ++ bytesOf 1 c.index ++ bytesOf 1 c.segment ++ bytesOf 2 c.zero ++
    bytesOf 2 c.gain ++ bytesOf 1 c.shift ++ bytesOf 3 c.loEnter ++ bytesOf 3 c.loExit ++
    bytesOf 3 c.hiExit ++ bytesOf 3 c.hiEnter ++ bytesOf 3 c.fallLimit ++ bytesOf 3 c.vent ++
    encOpt 2 (bytesOf 2) c.raw ++ encOpt 3 (bytesOf 3) c.p ++ encOpt 3 (bytesOf 3) c.f ++
    bytesOf 1 c.state.code ++ encFlag c.underRange ++ encFlag c.overRange ++ encFlag c.falling ++
    encOpt 4 encTime c.updated ++ encFlag c.lowPending) []

/-- ORDER (R18). -/
def shownOrder (o : Order) : Shown :=
  placed o.slot o.ref (bytesOf 1 (portCode o.origin) ++ encOpt 2 (bytesOf 2) o.linkedCall ++
      bytesOf 1 o.target ++ bytesOf 1 (if o.automatic then 1 else 2) ++ encFlag o.override ++
      encFlag o.priorityCut ++ bytesOf 1 o.state.code ++ encTime o.proposed ++
      encOpt 1 (fun v : Verification => bytesOf 1 v.code) o.verification ++
      encOpt 4 encTime o.decayDeadline ++ bytesOf 3 o.customerSum)
    [numbers 16 1 1 o.region,
      ⟨32, 1, o.steps.map (fun x => bytesOf 2 x.valve ++ bytesOf 1 x.rank ++ bytesOf 1 x.state.code)⟩,
      numbers 200 2 1 o.expectedOff, numbers 200 2 1 o.newlyAffected]

/-- CALL (R18). -/
def shownCall (c : Call) : Shown :=
  placed c.slot c.ref (bytesOf 1 c.segment ++ bytesOf 1 c.reported.code ++ bytesOf 1 c.effective.code ++
      encFlag c.corroborated ++ encTime c.first ++ encTime c.last ++ bytesOf 1 c.merged ++
      bytesOf 1 c.state.code ++ encOpt 2 (bytesOf 2) c.crew ++ bytesOf 1 c.level ++
      encOpt 4 encTime c.deadline)
    [numbers 4 1 2 c.links]

/-- OUTAGE (R18). -/
def shownOutage (o : Outage) : Shown :=
  placed o.id o.ref ((match o.cause with
        | .order r => [1#8, 1#8] ++ bytesOf 2 r
        | .unplanned => [2#8, 0#8, 0#8, 0#8]
        | .mixed => [3#8, 0#8, 0#8, 0#8]) ++
      encTime o.opened ++ bytesOf 3 o.off ++ bytesOf 3 o.awaiting ++ bytesOf 1 o.state.code)
    [numbers 200 2 1 o.members, numbers 16 1 1 o.sourcesOut]

/-- GRANT (R20). -/
def shownGrant (g : Grant) : Shown :=
  plain (bytesOf 1 g.kind.code ++ encFlag g.s ++ encFlag g.d ++ encFlag g.f ++ encFlag g.grantable) []

/-- COMMAND_QUEUE (R20). -/
def Picture.shownQueue (pic : Picture) : Shown :=
  let entry : Nat → Action → List Byte := fun v a => bytesOf 2 v ++ bytesOf 1 a.code
  let waiting := pic.valves.filterMap (fun v => v.pendingCmd.map (entry v.id))
  plain (bytesOf 1 pic.cmdQueue.length ++ bytesOf 2 waiting.length)
    [⟨50, 1, pic.cmdQueue.map (fun e => entry e.valve e.action)⟩, ⟨50, 2, waiting⟩]

/-- MODEL (R20). -/
def Picture.shownModel (pic : Picture) (m : ModelInfo) : Shown :=
  let t := pic.timing
  plain (m.name ++ bytesOf 1 m.version ++ bytesOf 2 pic.segments.length ++ bytesOf 2 pic.valves.length ++
    bytesOf 1 pic.sources.length ++ bytesOf 1 pic.units.length ++ bytesOf 2 pic.channels.length ++
    encTime t.mergeWindow ++ encTime t.attendA ++ encTime t.attendB ++ encTime t.attendC ++
    encTime t.onSiteA ++ encTime t.onSiteB ++ encTime t.onSiteC ++ encTime t.escalation ++
    encTime t.decayWindow ++ encTime t.proposalLifetime ++ encTime t.presenceTimeout ++
    bytesOf 3 t.e1 ++ bytesOf 3 t.e2) []

/-- SUPPLY (R21). -/
def Picture.shownSupply (pic : Picture) : Shown :=
  plain (encFlag (decide (pic.sweep.number ≠ 0)) ++ bytesOf 2 pic.sweep.number ++
    encSet pic.sweep.published) []

/-- The record that a request names (R14, R18, R19): by its slot or id with addressing mode 1, by its reference with mode
2. -/
def State.shown (s : State) (table mode index : Nat) : Option Shown :=
  match table, mode with
  | 1, 1 => (s.segment? index).map s.shownSegment
  | 2, 1 => (s.valve? index).map s.shownValve
  | 3, 1 => (s.source? index).map s.shownSource
  | 4, 1 => (s.unit? index).map shownUnit
  | 5, 1 => (s.channel? (index / 4) (index % 4)).map shownChannel
  | 6, 1 => (s.order? index).map shownOrder
  | 6, 2 => (s.orderByRef? index).map shownOrder
  | 7, 1 => (s.call? index).map shownCall
  | 7, 2 => (s.callByRef? index).map shownCall
  | 8, 1 => (s.outage? index).map shownOutage
  | 8, 2 => (s.outageByRef? index).map shownOutage
  | 9, 1 => (s.grants.find? (fun g => g.kind.code == index)).map shownGrant
  | 10, 1 => some s.shownQueue
  | 11, 1 => s.model.map s.shownModel
  | 12, 1 => some s.shownSupply
  | _, _ => none

/-! ### Which commands write what -/

/-- The commands that place a model in service or take one away (R199, R202). -/
def placesModel : Instr → Bool
  | .coldStart | .coldStartLoadComplete _ | .reloadComplete _ => true
  | _ => false

/-- The commands that write field units (R26, R27). -/
def writesUnits : Instr → Bool
  | .unitReport _ | .watchExpiry _ => true
  | c => placesModel c

/-- The commands that write sources (R83, R84). -/
def writesSources : Instr → Bool
  | .unitReport _ | .setSource _ => true
  | c => placesModel c

/-- The commands that write the call table: requests, corroboration, expiry, and the link of a proposal. -/
def writesCalls : Instr → Bool
  | .logCall _ | .assignCall _ | .callProgress _ | .callDeadlineExpiry _ | .unitReport _
  | .watchExpiry _ | .proposeIsolation _ | .coldStart => true
  | _ => false

/-- The commands that write the outage table and the totals (R141 to R143, R156). -/
def writesOutages : Instr → Bool
  | .actualSweepComplete | .purgeReport _ | .relightReport _ | .reloadComplete _ | .coldStart => true
  | _ => false

/-- The commands that publish, or set what is published (R55, R49). -/
def publishes : Instr → Bool
  | .actualSweepComplete => true
  | c => placesModel c

/-- Commands that never write the order table. -/
def leavesOrders : Instr → Bool
  | .coldStartLoadComplete _ | .secondsCounterTick | .transferStart _ _ | .writeTransfer _ _
  | .readTransfer _ _ | .statusTransfer _ | .presenceExpiry | .unknownKindRequest _ | .status _
  | .portReset _ _ | .readTable _ | .pullNotice _ | .setNoticeMask _ | .valveOperate _
  | .valveMark _ | .setSource _ | .nextCall _ | .assignCall _ | .purgeReport _ | .relightReport _
  | .storeRead _ | .storeReadComplete _ | .storeWrite _ | .storeWriteComplete _ | .reload _
  | .pullCommand _ | .callDeadlineExpiry _ => true
  | _ => false

/-- Commands that never write a valve or the field command queue. -/
def leavesValves : Instr → Bool
  | .secondsCounterTick | .transferStart _ _ | .writeTransfer _ _ | .readTransfer _ _
  | .statusTransfer _ | .presenceExpiry | .unknownKindRequest _ | .status _ | .portReset _ _
  | .readTable _ | .pullNotice _ | .setNoticeMask _ | .proposeIsolation _ | .commitOrder _
  | .setSource _ | .nextCall _ | .assignCall _ | .purgeReport _ | .relightReport _ | .storeRead _
  | .storeReadComplete _ | .storeWrite _ | .storeWriteComplete _ | .reload _
  | .actualSweepComplete | .decayDeadlineExpiry _ | .callDeadlineExpiry _ => true
  | _ => false

/-- The commands that write the flash (R196, R200). -/
def writesFlash : Instr → Bool
  | .coldStart | .storeWriteComplete _ => true
  | _ => false

/-- The commands that make the store BUSY or IDLE (R196). -/
def writesStore : Instr → Bool
  | .coldStart | .coldStartLoadComplete _ | .storeRead _ | .storeReadComplete _ | .storeWrite _
  | .storeWriteComplete _ | .reload _ | .reloadComplete _ => true
  | _ => false

/-- The commands that write presence: cold start, its expiry, and what Port S admits (R160 to R162). -/
def writesPresence : Instr → Bool
  | .coldStart | .presenceExpiry | .writeTransfer .s _ | .portReset .s _ => true
  | _ => false

/-- The commands that write the notice mask of a port (R170, R176). -/
def writesMask (p : Port) : Instr → Bool
  | .coldStart => true
  | .writeTransfer q _ | .portReset q _ | .setNoticeMask q => p == q
  | _ => false

/-- The commands that act on a port's block: those of its own port, cold start, and the completions of what it holds
in service (R179 to R190). -/
def touchesPort (p : Port) : Instr → Bool
  | .coldStart | .plannedSweepComplete | .reloadComplete _ => true
  | .storeReadComplete _ | .storeWriteComplete _ => p == .s
  | .coldStartLoadComplete _ | .secondsCounterTick | .presenceExpiry | .watchExpiry _
  | .travelDeadlineExpiry _ | .actualSweepComplete | .decayDeadlineExpiry _ | .proposalExpiry _
  | .callDeadlineExpiry _ => false
  | .transferStart q _ | .writeTransfer q _ | .readTransfer q _ | .statusTransfer q
  | .unknownKindRequest q | .status q | .portReset q _ | .readTable q | .pullNotice q
  | .setNoticeMask q | .proposeIsolation q | .commitOrder q | .cancelOrder q | .beginRestore q
  | .valveOperate q | .valveAssert q | .valveMark q | .setSource q | .crewValveReport q
  | .logCall q | .nextCall q | .assignCall q | .callProgress q | .purgeReport q | .relightReport q
  | .storeRead q | .storeWrite q | .reload q | .unitReport q | .positionReport q
  | .pullCommand q => p == q

/-! ### What never changes while a model is in service (R1 to R10) -/

/-- The static fields of the records in service, with the model, the timing values and the grant table. -/
def State.staticPart (s : State) :=
  (s.model, s.timing, s.grants,
    s.segments.map (fun g => (g.id, g.tier, g.customers, g.priority)),
    s.valves.map (fun v => (v.id, v.endA, v.endB, v.kind, v.travel, v.normal)),
    s.sources.map (fun q => (q.id, q.unit)),
    s.units.map (fun u => (u.id, u.timeout, u.channelCount, u.source)),
    s.channels.map (fun c => (c.unit, c.index, c.segment, c.zero, c.gain, c.shift,
      c.loEnter, c.loExit, c.hiExit, c.hiEnter, c.fallLimit, c.vent)))

end Sys2Proof.Machine
end

