-- ==== Sys2Proof/Certificates/Slice0/Obligations.lean ====
section
/-! DEFINITION. The statements for the provers. In a request's statement `s.offers p k tag pl rest` says that port p may
take a request of kind k as its oldest frame, and `s.passes p k pl` that the request passes the common checks. -/

open Sys2Proof Sys2Proof.Machine

/-! ### The step -/

/-- A step takes the command at the front of the queue and is its meaning on the queue's rest; on an empty queue
the block idles (log entry 1). -/
def Obligations.StepTakesTheFrontCommand : Prop :=
  (∀ (s : State) (c : Instr) (rest : List Instr), s.pending = c :: rest →
    step s = exec c { s with pending := rest }) ∧
  (∀ s : State, s.pending = [] → step s = .next s)

/-- Every command completes in every state, and leaves the queue of those that wait as it was (the queue is the model's own:
log entry 1; an event whose conditions do not hold leaves the state: log entry 2). -/
def Obligations.EveryCommandCompletesAndKeepsTheQueue : Prop :=
  ∀ (c : Instr) (s : State), ∃ t, exec c s = .next t ∧ t.pending = s.pending

/-! ### Invariants of every step -/

/-- The state after reset satisfies every invariant below. -/
def Obligations.InvariantsHoldAtReset : Prop :=
  State.reset.portsSound ∧ State.reset.noticesSound ∧ State.reset.outputsTrue ∧ State.reset.flashSound ∧
  State.reset.engineSound ∧ State.reset.valvesSound ∧ State.reset.interlockHolds ∧
  State.reset.countsExact ∧ State.reset.callsSound ∧ State.reset.ordersSound ∧
  State.reset.outagesSound ∧ State.reset.channelsSound

/-- No port's store overflows: an admitted frame always finds room, and a completion always finds a reply buffer
(R184, R185, R188). -/
def Obligations.PortStoresStayInBounds : Prop :=
  ∀ s t : State, s.portsSound → step s = .next t → t.portsSound

/-- Each notice queue keeps at most 32 entries and at most one for each kind and subject (R171); and ATTN and FLOW always
say what they stand for, and the seconds counter never passes its last value (R174, R65, R189, R195). -/
def Obligations.NoticesAndOutputsStaySound : Prop :=
  ∀ s t : State, step s = .next t →
    (s.noticesSound → t.noticesSound) ∧ (s.outputsTrue → t.outputsTrue)

/-- The flash keeps its canonical form, through failed and interrupted writes too (log entries 7 to 9). -/
def Obligations.FlashKeepsItsCanonicalForm : Prop :=
  ∀ s t : State, s.flashSound → step s = .next t → t.flashSound

/-- While the sweep engine is IDLE nothing waits for it (R52). Every command that takes a valve into or out of CLOSED, or
changes a source, asks for an actual sweep, which then is pending or has started (R5, R50, R52). -/
def Obligations.IdleEngineHasNoWork : Prop :=
  (∀ s t : State, s.engineSound → step s = .next t → t.engineSound) ∧
  ∀ (c : Instr) (s t : State), exec c s = .next t →
    (∀ i v, s.valve? i = some v → ∀ y, t.valve? i = some y →
      ¬ (v.position = .closed ↔ y.position = .closed) → t.sweepIsAsked) ∧
    (∀ i q, s.source? i = some q → ∀ r, t.source? i = some r →
      ¬ (q.state = r.state ∧ q.cause = r.cause) → t.sweepIsAsked)

/-- Each REMOTE valve stays in one of its three conditions, each MANUAL valve at rest, and the field command queue holds
at most one entry for each valve (R63, R65). -/
def Obligations.ValvesStayInTheirConditions : Prop :=
  ∀ s t : State, s.valvesSound → step s = .next t → t.valvesSound

/-- The OPEN interlock: no step leaves an OPEN command that awaits pull, or an outstanding OPEN instruction, at a valve
with an end at a segment whose unsafe class-A count is above 0 (R80, R81). -/
def Obligations.InterlockHoldsAtEveryStep : Prop :=
  ∀ s t : State, s.interlockHolds → step s = .next t → t.interlockHolds

/-- Each segment's unsafe class-A count stays the number of its calls that are unsafe and of effective class A
(R132). -/
def Obligations.UnsafeCountsStayExact : Prop :=
  ∀ s t : State, s.countsExact → step s = .next t → t.countsExact

/-- Call records stay in order: no effective class below the reported one, a deadline exactly in NEW and ASSIGNED, and every
CLOSED call in the order of closing (R116, R123, R130, R131). -/
def Obligations.CallRecordsStaySound : Prop :=
  ∀ s t : State, s.callsSound → step s = .next t → t.callsSound

/-- Order records stay in order: no valve in two steps, ranks issued whole and in ascending order, an expiry exactly while
PROPOSED without a commit in hand, a decay window only with the chain complete, and exactly the terminal records in the
order in which slots are reclaimed (R87, R88, R90, R91, R93, R95, R96, R100, R103). -/
def Obligations.OrderRecordsStaySound : Prop :=
  ∀ s t : State, s.ordersSound → step s = .next t → t.ordersSound

/-- Every segment in OFF, PURGE or RELIGHT stays a member of an open outage and every LIVE segment of none; every open
record's state, customers off and awaiting relight stay those of its members (log entry 24), and the network totals the
sums over the open records (R147, R151, R152). -/
def Obligations.SuppliesAndOutagesStayInStep : Prop :=
  ∀ s t : State, s.outagesSound → step s = .next t → t.outagesSound

/-- There stays one channel record for each unit and index, and every channel keeps its limits in order and its pressures
in 0 to 1,048,575, and has a low alarm pending only in LOW (R1, R10, R33, R43). -/
def Obligations.ChannelRecordsStaySound : Prop :=
  ∀ s t : State, s.channelsSound → step s = .next t → t.channelsSound

/-! ### What no other command writes -/

/-- The records in service and their static fields, the timing values and the grants are fixed from one placing of a
model to the next (R1, R158). -/
def Obligations.StaticFieldsAreFixedInService : Prop :=
  ∀ (c : Instr) (s t : State), exec c s = .next t → placesModel c = false → t.staticPart = s.staticPart

/-- Only its own commands write each of: the counter, the flash, the store, presence, the masks, and a port's block (R161,
R170, R179, R195, R196). The clause on freeDraws, the counter of free values, is about the model's own field (log entry
27). -/
def Obligations.PortsStoreAndPresenceAreWrittenByTheirOwn : Prop :=
  ∀ (c : Instr) (s t : State), exec c s = .next t →
    (c ≠ .coldStart → c ≠ .secondsCounterTick → t.now = s.now) ∧
    (writesFlash c = false → t.flash = s.flash ∧ t.freeDraws = s.freeDraws) ∧
    (writesStore c = false → t.store = s.store) ∧
    (writesPresence c = false → t.presence = s.presence) ∧
    (writesMask .s c = false → t.noticesS.mask = s.noticesS.mask) ∧
    (writesMask .d c = false → t.noticesD.mask = s.noticesD.mask) ∧
    (touchesPort .s c = false → t.portS = s.portS) ∧
    (touchesPort .d c = false → t.portD = s.portD) ∧
    (touchesPort .f c = false → t.portF = s.portF ∧ t.flow = s.flow)

/-- Only their own commands write field units, sources, calls, outages and supply states, and the publication. -/
def Obligations.TablesAreWrittenByTheirOwn : Prop :=
  ∀ (c : Instr) (s t : State), exec c s = .next t →
    (writesUnits c = false → t.units = s.units) ∧
    (writesSources c = false → t.sources = s.sources) ∧
    (writesCalls c = false →
      t.calls = s.calls ∧ t.nextCallRef = s.nextCallRef ∧ t.closedCalls = s.closedCalls) ∧
    (writesOutages c = false →
      t.outages = s.outages ∧ t.nextOutageRef = s.nextOutageRef ∧ t.openedOutages = s.openedOutages ∧
      t.closedOutages = s.closedOutages ∧ t.customersOff = s.customersOff ∧
      t.awaitingRelight = s.awaitingRelight) ∧
    (writesOutages c = false → placesModel c = false →
      t.segments.map (fun g => (g.id, g.supply, g.relit, g.outage)) =
        s.segments.map (fun g => (g.id, g.supply, g.relit, g.outage))) ∧
    (publishes c = false →
      t.sweep.published = s.sweep.published ∧ t.sweep.number = s.sweep.number)

/-- The commands named leave the order table, or the valves and the field command queue, as they are; a channel changes
but for its low-alarm mark only at a report, a watch expiry or a placing. -/
def Obligations.OrdersValvesAndChannelsAreLeftByTheRest : Prop :=
  ∀ (c : Instr) (s t : State), exec c s = .next t →
    (leavesOrders c = true →
      t.orders = s.orders ∧ t.nextOrderRef = s.nextOrderRef ∧ t.terminalSlots = s.terminalSlots) ∧
    (leavesValves c = true → t.valves = s.valves ∧ t.cmdQueue = s.cmdQueue) ∧
    (writesUnits c = false →
      t.channels.map (fun ch => { ch with lowPending := false }) =
        s.channels.map (fun ch => { ch with lowPending := false }))

/-! ### Frames and numbers -/

/-- A request frame is read back as the request it carries, whatever its kind, TAG and payload (R181, R183): the CRC of a
frame with its CRC is 0, and no bit of it is dropped. The layouts of a request and of a reply (R181), the CRC of a span byte
by byte (R183), the codes of results and request kinds (R192, R193), and what the fields of a payload read (R181): numbers of 1
to 4 bytes, most significant first. -/
def Obligations.FrameIsReadBackAsItsRequest : Prop :=
  (∀ (kind tag : Byte) (pl : List Byte), pl.length ≤ 240 →
    readFrame (requestFrame kind tag pl) = some ⟨kind, tag, pl⟩) ∧
  (∀ (kind tag : Byte) (result : Result) (pl : List Byte), pl.length ≤ 240 →
    (let span := [0xA5#8, kind, tag] ++ bytesOf 1 pl.length ++ pl
     requestFrame kind tag pl = span ++ bytesOf 2 (crc16 span).toNat) ∧
    (let span := [0x5A#8, kind, tag] ++ bytesOf 1 result.code ++ bytesOf 1 pl.length ++ pl
     replyFrame kind tag result pl = span ++ bytesOf 2 (crc16 span).toNat)) ∧
  (crc16 [] = 0xFFFF#16 ∧ ∀ (span : List Byte) (b : Byte),
    let shift : BitVec 16 → BitVec 16 := fun r => if r.getLsbD 15 then (r <<< 1) ^^^ 0x1021#16 else r <<< 1
    crc16 (span ++ [b]) = (List.range 8).foldl (fun r _ => shift r) (crc16 span ^^^ (b.zeroExtend 16 <<< 8))) ∧
  [Result.done, .doneClamped, .doneMerged, .unknownKind, .notPermitted, .noModel, .badLength, .badValue, .noSuch,
    .wrongState, .tableFull, .valveHeld, .priorityCut, .overLimit, .cannotIsolate, .callOpen, .storeFault,
    .imageBad].map Result.code = List.range 18 ∧
  [RequestKind.status, .portReset, .readTable, .pullNotice, .setNoticeMask, .proposeIsolation, .commitOrder,
    .cancelOrder, .beginRestore, .valveOperate, .valveAssert, .valveMark, .setSource, .crewValveReport, .logCall,
    .nextCall, .assignCall, .callProgress, .purgeReport, .relightReport, .storeRead, .storeWrite, .reload, .unitReport,
    .positionReport, .pullCommand].map RequestKind.code =
    [0x01, 0x02, 0x10, 0x11, 0x12, 0x20, 0x21, 0x22, 0x23, 0x30, 0x31, 0x32, 0x33, 0x34, 0x40, 0x41, 0x42, 0x43, 0x50,
      0x51, 0x60, 0x61, 0x62, 0x70, 0x71, 0x72] ∧
  ∀ (pl : List Byte) (i : Nat), u8 pl i = (pl.getD i 0).toNat ∧ u16 pl i = u8 pl i * 256 + u8 pl (i + 1) ∧
    u24 pl i = u16 pl i * 256 + u8 pl (i + 2) ∧ u32 pl i = u16 pl i * 65536 + u16 pl (i + 2)

/-- The offset and scale stages (R31). -/
def Obligations.RawCountConvertsToPascals : Prop :=
  ∀ r z gain : Nat, r ≤ 65535 → z ≤ 65535 → gain ≤ 65535 →
    (z ≤ r → underFlag r z = false ∧
      convert r z gain = min (((r - z) * gain + 128) / 256) 1048575 ∧
      overFlag r z gain = decide (1048575 < ((r - z) * gain + 128) / 256)) ∧
    (r < z → underFlag r z = true ∧ convert r z gain = 0 ∧ overFlag r z gain = false) ∧
    ¬ (underFlag r z = true ∧ overFlag r z gain = true) ∧ (r - z) * gain < 2 ^ 33

/-- A non-seed update leaves F between F_old and P inclusive, the adjustment between 0 and d, and a pressure in range
(R32, R33). -/
def Obligations.FilterStaysBetweenOldAndNew : Prop :=
  ∀ sh old p : Nat, sh ≤ 4 → old ≤ 1048575 → p ≤ 1048575 →
    (sh = 0 → filterStep sh old p = p) ∧
    (1 ≤ sh → (filterStep sh old p : Int) = old + ((p : Int) - old + 2 ^ (sh - 1)) / 2 ^ sh) ∧
    (old ≤ p → old ≤ filterStep sh old p ∧ filterStep sh old p ≤ p) ∧
    (p ≤ old → p ≤ filterStep sh old p ∧ filterStep sh old p ≤ old) ∧
    filterStep sh old p ≤ 1048575

/-- The limits stage (R34): the enter limits from NORMAL and on a seed, the exit limits first in LOW and HIGH; a pressure
equal to a limit does not cross it. -/
def Obligations.LimitsChooseTheState : Prop :=
  ∀ (c : Channel) (f : Nat), c.loEnter ≤ c.loExit → c.loExit < c.hiExit → c.hiExit ≤ c.hiEnter →
    (enterLimits c f = .low ↔ f < c.loEnter) ∧ (enterLimits c f = .high ↔ c.hiEnter < f) ∧
    (enterLimits c f = .normal ↔ c.loEnter ≤ f ∧ f ≤ c.hiEnter) ∧
    (c.state = .normal ∨ c.fresh = false → limitState c f = enterLimits c f) ∧
    (c.state = .low → (f ≤ c.loExit → limitState c f = .low) ∧
      (c.loExit < f → limitState c f = if c.hiEnter < f then .high else .normal)) ∧
    (c.state = .high → (c.hiExit ≤ f → limitState c f = .high) ∧
      (f < c.hiExit → limitState c f = if f < c.loEnter then .low else .normal))

/-- The pressure summary of a segment (R37), and when it corroborates (R122). -/
def Obligations.SummaryIsTheFirstCaseThatApplies : Prop :=
  (∀ chs : List Channel,
    (summaryOf chs = .noChannel ↔ chs = []) ∧
    (summaryOf chs = .unknown ↔ chs ≠ [] ∧ ∀ c ∈ chs, c.fresh = false) ∧
    (summaryOf chs = .low ↔ ∃ c ∈ chs, c.state = .low) ∧
    (summaryOf chs = .high ↔ (∃ c ∈ chs, c.state = .high) ∧ ∀ c ∈ chs, c.state ≠ .low) ∧
    (fallingOf chs = true ↔ ∃ c ∈ chs, c.fresh = true ∧ c.falling = true)) ∧
  (∀ g : Segment, g.corroborates = true ↔ g.summary = .low ∨ g.falling = true)

/-! ### The sweep -/

/-- A segment is in the supplied set of a sweep exactly when a chain of passing valves leads to it from a LIVE source,
through segments only; the unsupplied set is the rest of the segments in service (R47). The inputs (R48): a valve passes
unless it is CLOSED or in the plan, a source is live when LIVE. -/
def Obligations.SuppliedExactlyWhenReached : Prop :=
  ∀ (pic : Picture) (inp : SweepInputs) (id : Nat),
    (id ∈ pic.supplied inp ↔
      Reach (pic.valves.filter (fun v => inp.passing.contains v.id)) pic.segmentIds inp.live id) ∧
    (id ∈ pic.unsupplied (pic.supplied inp) ↔ id ∈ pic.segmentIds ∧
      ¬ Reach (pic.valves.filter (fun v => inp.passing.contains v.id)) pic.segmentIds inp.live id) ∧
    (∀ plan, (id ∈ (pic.inputs plan).passing ↔
      ∃ v ∈ pic.valves, v.id = id ∧ v.position ≠ .closed ∧ id ∉ plan)) ∧
    (∀ plan, (id ∈ (pic.inputs plan).live ↔ ∃ q ∈ pic.sources, q.id = id ∧ q.state = .live))

/-- ACTUAL_SWEEP_COMPLETE: the published set and number (R55), each segment's supply state (R140), the choice of the
next sweep (R52); every order's reaction (R102, R103, R106, R108, R109) with its notices (R114), BREACH for the lowest
region segment supplied among them, the orders in ascending slot (log entry 22); and the attribution of the segments
taken from LIVE to OFF (R145, R147 to R150): each joins the open record of its ORDER cause or one opened now for its
cause, and once all 32 records are open the record opened most recently, which becomes MIXED; and the notices of the
records opened and changed (R153). Records are opened in the lowest never used, then in those closed earliest, with the
references in turn, and members join in ascending id (R145, R146; a number that two records carry is log entry 36's). -/
def Obligations.ActualSweepPublishesItsResult : Prop :=
  (∀ pic : Picture, pic.latestOpen = (pic.openedOutages.reverse.filterMap pic.outage?).find? Outage.isOpen) ∧
  (∀ own group : Cause, overflowCause own group =
    if own = .unplanned ∧ group = .unplanned then .unplanned else .mixed) ∧
  ∀ (s : State) (inp : SweepInputs), s.sweep.flight = .actual inp →
    ∃ t, exec .actualSweepComplete s = .next t ∧
      t.sweep.published = s.supplied inp ∧
      t.sweep.number = (if s.sweep.number = 65535 then 1 else s.sweep.number + 1) ∧
      t.segments.map (fun g => (g.id, g.supply, g.relit)) = s.segments.map (fun g =>
        if g.id ∈ s.supplied inp then
          (g.id, if g.supply = .off then Supply.purge else g.supply, g.relit)
        else (g.id, Supply.off, if g.supply = .purge ∨ g.supply = .relight then 0 else g.relit)) ∧
      (∀ r rs, s.sweep.requests = r :: rs →
        t.sweep.flight = .planned r (s.inputs r.plan) ∧ t.sweep.requests = rs ∧
          t.sweep.actualPending = s.sweep.actualPending) ∧
      (s.sweep.requests = [] → t.sweep.requests = [] ∧ t.sweep.actualPending = false ∧
        t.sweep.flight = if s.sweep.actualPending then .actual (s.inputs []) else .idle) ∧
      (s.ordersSound →
        t.orders = s.orders.map (s.orderPublished (s.supplied inp)) ∧
        s.tells t (s.orders.flatMap (s.publishedNews (s.supplied inp)))) ∧
      (s.ordersSound → s.outagesSound →
        let lost := s.segments.filter (fun g => g.supply = .live ∧ g.id ∉ s.supplied inp)
        let causes := s.causesToOpen lost
        let free := 32 - (s.outages.filter Outage.isOpen).length
        let opened := causes.take free
        let excess := causes.drop free
        let slots := (List.range 32).filter (fun k => s.outages.all (fun a => a.id != k)) ++ s.closedOutages.eraseDups
        let refAfter : Nat → Nat := fun n =>
          (List.range n).foldl (fun r _ => if r = 65535 then 1 else r + 1) s.nextOutageRef
        let causeOf : Outage → Cause → Cause := fun o own =>
          if t.latestOpen = some o then excess.foldl overflowCause own else own
        (∀ g ∈ s.segments, g ∉ lost → (t.segment? g.id).map (fun x => x.outage) = some g.outage) ∧
        (∀ a ∈ s.outages, a.isOpen = true → ∃ o ∈ t.outages, o.id = a.id ∧ o.ref = a.ref ∧
          o.isOpen = true ∧ o.opened = a.opened ∧ o.sourcesOut = a.sourcesOut ∧ o.cause = causeOf o a.cause) ∧
        (∀ g ∈ lost, ∃ o ∈ t.outages, o.isOpen = true ∧ g.id ∈ o.members ∧
          (t.segment? g.id).map (fun x => x.outage) = some (some o.ref) ∧
          (s.lossCause g.id ∉ causes →
            ∃ a ∈ s.outages, a.isOpen = true ∧ a.cause = s.lossCause g.id ∧ a.id = o.id) ∧
          (s.lossCause g.id ∈ opened → o.cause = causeOf o (s.lossCause g.id) ∧
            slots[opened.idxOf (s.lossCause g.id)]? = some o.id ∧
            o.ref = refAfter (opened.idxOf (s.lossCause g.id)) ∧
            (∀ a ∈ s.outages, a.id = o.id → a.isOpen = false) ∧ o.opened = s.now ∧
            o.sourcesOut = (s.sources.filter (fun q => q.state = .out)).map (fun q => q.id)) ∧
          (s.lossCause g.id ∈ excess → t.latestOpen = some o ∧ (t.outages.filter Outage.isOpen).length = 32)) ∧
        (∀ g ∈ lost, ∀ h ∈ lost, s.lossCause g.id = s.lossCause h.id →
          (t.segment? g.id).map (fun x => x.outage) = (t.segment? h.id).map (fun x => x.outage)) ∧
        (t.nextOutageRef = refAfter opened.length ∧
          t.openedOutages = s.openedOutages.filter (fun k => k ∉ slots.take opened.length) ++
            slots.take opened.length ∧
          t.closedOutages = s.closedOutages.filter (fun k => k ∉ slots.take opened.length)) ∧
        ((t.outages.map (fun o => o.ref)).Pairwise (· ≠ ·) → (s.orders.map (fun o => o.ref)).Pairwise (· ≠ ·) →
          ∀ o ∈ t.outages, o.isOpen = true → (excess = [] ∨ t.latestOpen ≠ some o) →
            let before := (s.outages.find? (fun a => a.id == o.id && a.isOpen)).elim [] (fun a => a.members)
            o.members = before ++ ((lost.filter (fun g => (t.segment? g.id).any (fun x =>
              x.outage == some o.ref))).map (fun g => g.id)).filter (fun i => i ∉ before)) ∧
        ∃ rs : List Raise, s.raised t rs ∧
          (∀ o ∈ t.outages, o.isOpen = true →
            ((∀ a ∈ s.outages, a.id = o.id → a.isOpen = false) →
              ⟨.outageOpened, o.ref, some (.outageOpened o.cause o.off)⟩ ∈ rs) ∧
            (∀ a ∈ s.outages, a.id = o.id → a.isOpen = true → a ≠ o →
              ⟨.outageChanged, o.ref, some (.outageChanged o.state o.off o.awaiting)⟩ ∈ rs)) ∧
          (∀ r ∈ rs, r.kind = .outageOpened ∨ r.kind = .outageChanged →
            ∃ o ∈ t.outages, o.ref = r.subject ∧ (o ∉ s.outages ∨
              ∃ g ∈ lost, (t.segment? g.id).map (fun x => x.outage) = some (some o.ref))))

/-- PLANNED_SWEEP_COMPLETE with the result of a PROPOSE (R94, R58). If the order is still PROPOSED the figures are
written, ORDER_STATE PROPOSED is raised, and the request in service is answered DONE with them and with the order's
override flag (R166; its place, last, is log entry 33's); if not, it is answered WRONG_STATE and no record or notice
changes. Either reply is discarded after a PORT_RESET, and the engine then chooses its next sweep (R52). The figures and
their layout are those of a commit's reply too (R97); the width of the slot is log entry 12's. -/
def Obligations.PlannedSweepCompletesAProposal : Prop :=
  (∀ (slot ref number : Nat) (st : List Byte) (region : List Nat) (steps : List Step) (g : Figures)
    (cut : Bool), figuresPayload slot ref st region steps g number cut =
      bytesOf 1 slot ++ bytesOf 2 ref ++ st ++
      bytesOf 1 region.length ++ (region.map (bytesOf 1)).flatten ++
      bytesOf 1 steps.length ++ (steps.map (fun x =>
        bytesOf 2 x.valve ++ bytesOf 1 x.rank ++ bytesOf 1 x.state.code)).flatten ++
      bytesOf 2 g.expectedOff.length ++ bytesOf 2 g.newlyAffected.length ++ bytesOf 3 g.customerSum ++
      (if g.priorityCut then [1#8] else [0#8]) ++ bytesOf 2 number ++
      (if cut then [1#8] else [0#8])) ∧
  (∀ (pic : Picture) (off : List Nat),
    let newly := off.filter (fun i => i ∈ pic.sweep.published)
    pic.customersOf off = ((pic.segments.filter (fun g => g.id ∈ off)).map (fun g => g.customers)).sum ∧
    pic.figures off = ⟨off, newly, pic.customersOf newly,
      pic.segments.any (fun g => g.priority && newly.contains g.id)⟩) ∧
  (∀ (s : State) (r : PlannedRequest) (inp : SweepInputs) (o : Order) (q : InService),
    s.sweep.flight = .planned r inp → r.op = .propose → s.orderByRef? r.ref = some o →
    o.state = .proposed → (s.port r.port).inService = some q →
    ∃ t, exec .plannedSweepComplete s = .next t ∧
      t.orders = s.orders.map (fun x => if x.slot = o.slot then
        { x with
          expectedOff := s.unsupplied (s.supplied inp)
          newlyAffected := (s.unsupplied (s.supplied inp)).filter (fun i => s.sweep.published.contains i)
          customerSum := s.customersOf ((s.unsupplied (s.supplied inp)).filter
            (fun i => s.sweep.published.contains i))
          priorityCut := s.segments.any (fun g => g.priority && ((s.unsupplied (s.supplied inp)).filter
            (fun i => s.sweep.published.contains i)).contains g.id)
          figuresPending := false } else x) ∧
      (t.port r.port).inService = none ∧
      (q.discard = true → (t.port r.port).replies = (s.port r.port).replies) ∧
      (q.discard = false → (t.port r.port).replies = (s.port r.port).replies ++
        [replyFrame q.kind q.tag .done (figuresPayload o.slot o.ref [0x01#8] o.region o.steps
          (s.figures (s.unsupplied (s.supplied inp))) s.sweep.number
          (decide (∀ i ∈ o.region, i ∈ s.unsupplied (s.supplied inp))) ++
          (if o.override then [1#8] else [0#8]))]) ∧
      s.raised t [⟨.orderState, o.ref, some (.orderState .proposed none)⟩] ∧
      t.valves = s.valves ∧ t.sweep = s.sweepAfterPlanned t s.sweep.actualPending) ∧
  ∀ (s : State) (r : PlannedRequest) (inp : SweepInputs), s.sweep.flight = .planned r inp → r.op = .propose →
    (∀ o, s.orderByRef? r.ref = some o → o.state ≠ .proposed) →
    ∃ t, exec .plannedSweepComplete s = .next t ∧
      t.toPicture = { s.toPicture with sweep := s.sweepAfterPlanned t s.sweep.actualPending } ∧
      t.noticesS = s.noticesS ∧ t.noticesD = s.noticesD ∧
      ∀ q, (s.port r.port).inService = some q → (t.port r.port).inService = none ∧
        (t.port r.port).replies = (s.port r.port).replies ++ (if q.discard then [] else
          [replyFrame q.kind q.tag .wrongState (bytesOf 1 r.slot ++ bytesOf 2 r.ref ++
            (match s.orderByRef? r.ref with
              | some o => [1#8] ++ bytesOf 1 o.state.code
              | none => [0#8, 0#8]))])

/-- PLANNED_SWEEP_COMPLETE with the result of a COMMIT that passes the checks of R97 (R98, R100): the order is EXECUTING
with the region, steps and all four figures of the commit, holds its valves and its expected-off segments, and has its
lowest rank issued; the request in service is answered DONE with the figures and the record's region and steps (log
entry 18), or its reply is discarded after a PORT_RESET. ORDER_STATE EXECUTING is raised, and CHAIN_COMPLETE if the
chain is complete (R114); each valve of an ISSUED step has its CLOSE in hand, or its crew an instruction (R64, R72). On
Port D the checks are the dispatch conditions (R164, R165); an override counts on Port S alone. The engine then chooses
its next sweep (R52): an actual one if one was asked for before, if the commit has changed what a valve passes (R50), or
if it has completed the chain (R102). -/
def Obligations.PlannedSweepCompletesACommit : Prop :=
  ∀ (s : State) (r : PlannedRequest) (inp : SweepInputs) (ov : Bool) (region : List Nat)
    (steps : List Step) (o : Order),
    s.sweep.flight = .planned r inp → r.op = .commit ov region steps → r.port ≠ .f →
    s.ordersSound → s.orderByRef? r.ref = some o → o.state = .proposed →
    (∀ i ∈ region, i ∈ s.unsupplied (s.supplied inp)) →
    (∀ x ∈ steps, ∃ v, s.valve? x.valve = some v ∧ v.holder = none) →
    (r.port = .s → (s.figures (s.unsupplied (s.supplied inp))).priorityCut = true →
      o.override = true ∨ ov = true) →
    (r.port = .d → (s.figures (s.unsupplied (s.supplied inp))).priorityCut = false ∧
      (s.figures (s.unsupplied (s.supplied inp))).customerSum ≤
        (if s.presence.present then s.timing.e1 else s.timing.e2) ∧
      ∃ ref, o.linkedCall = some ref ∧ ∃ c, s.callByRef? ref = some c ∧ c.state ≠ .closed ∧
        c.effective = .a) →
    ∃ t, exec .plannedSweepComplete s = .next t ∧
      (∃ x, t.order? o.slot = some x ∧ x.ref = o.ref ∧ x.state = .executing ∧ x.region = region ∧
        x.steps.map (fun y => (y.valve, y.rank)) = steps.map (fun y => (y.valve, y.rank)) ∧
        (∀ y ∈ x.steps, (∀ z ∈ x.steps, y.rank ≤ z.rank) →
          y.state = .issued ∨ y.state = .confirmed) ∧
        x.expectedOff = s.unsupplied (s.supplied inp) ∧
        x.newlyAffected = (s.unsupplied (s.supplied inp)).filter (fun i => i ∈ s.sweep.published) ∧
        x.customerSum = ((s.segments.filter (fun g => g.id ∈ x.newlyAffected)).map
          (fun g => g.customers)).sum ∧
        x.priorityCut = s.segments.any (fun g => g.priority && x.newlyAffected.contains g.id) ∧
        (∀ q, (s.port r.port).inService = some q → (t.port r.port).inService = none ∧
          (t.port r.port).replies = (s.port r.port).replies ++ (if q.discard then [] else
            [replyFrame q.kind q.tag .done (figuresPayload o.slot o.ref [0x02#8] region x.steps
              (s.figures (s.unsupplied (s.supplied inp))) s.sweep.number true)])) ∧
        x.override = (o.override || (decide (r.port = .s) && ov)) ∧ x.commitInHand = false ∧
        x.expiry = none ∧ x.proposed = o.proposed) ∧
      (∀ y ∈ steps, ∃ v, t.valve? y.valve = some v ∧ v.holder = some o.ref) ∧
      (∀ g ∈ t.segments, g.id ∈ s.unsupplied (s.supplied inp) → o.ref ∈ g.holders) ∧
      (∃ rs : List Raise, s.raised t rs ∧ ∀ x, t.order? o.slot = some x →
        orderNews rs = ⟨.orderState, o.ref, some (.orderState .executing none)⟩ ::
          (if x.chainComplete then [⟨.orderState, o.ref, some .chainComplete⟩] else []) ∧
        (s.valvesSound → ∀ y ∈ x.steps, y.state = .issued → ∀ v, s.valve? y.valve = some v →
          s.stepIssued t rs .close o.ref v)) ∧
      t.sweep = s.sweepAfterPlanned t (s.sweep.actualPending ||
        (t.order? o.slot).any Order.chainComplete ||
        s.valves.any (fun v => (t.valve? v.id).any (fun y => y.passes != v.passes)))

/-- PLANNED_SWEEP_COMPLETE with the result of a COMMIT that is refused (R97, R99, R165): the five checks in their order with
their codes. At checks 2 to 5 every valve is unchanged and the order stays PROPOSED as it stood, or becomes EXPIRED if its
moment has come (log entry 20); at check 1 no record changes. The request in service is answered with the code and the fresh
figures for the region and the steps that the request formed (log entry 18; the state byte of a record that is gone is free,
log entry 11), and the engine then chooses its next sweep (R52). -/
def Obligations.RefusedCommitLeavesEveryValve : Prop :=
  (∀ (s : State) (r : PlannedRequest) (inp : SweepInputs) (ov : Bool) (region : List Nat)
    (steps : List Step) (o : Order),
    s.sweep.flight = .planned r inp → r.op = .commit ov region steps → r.port ≠ .f →
    s.ordersSound → s.orderByRef? r.ref = some o → o.state = .proposed →
    (∀ v ∈ s.valves, v.holder ≠ some o.ref) →
    let off := s.unsupplied (s.supplied inp)
    let moment := o.proposed + s.timing.proposalLifetime
    let refused : Result → Prop := fun code => ∃ t, exec .plannedSweepComplete s = .next t ∧
      t.valves = s.valves ∧ t.sweep = s.sweepAfterPlanned t s.sweep.actualPending ∧
      t.order? o.slot = some { o with
        commitInHand := false
        expiry := if s.now < moment then some moment else none
        state := if s.now < moment then .proposed else .expired } ∧
      s.tells t (if s.now < moment then [] else [⟨.orderState, o.ref, some (.orderState .expired none)⟩]) ∧
      ∀ q, (s.port r.port).inService = some q → (t.port r.port).inService = none ∧
        (t.port r.port).replies = (s.port r.port).replies ++ (if q.discard then [] else
          [replyFrame q.kind q.tag code (figuresPayload o.slot o.ref [0x01#8] region steps (s.figures off)
            s.sweep.number (decide (∀ i ∈ region, i ∈ off)))])
    let cut := ∀ i ∈ region, i ∈ off
    let held := ∃ x ∈ steps, ∃ v ∈ s.valves, v.id = x.valve ∧ v.holder ≠ none
    let newly := off.filter (fun i => i ∈ s.sweep.published)
    let priority := ∃ g ∈ s.segments, g.id ∈ newly ∧ g.priority = true
    let sum := ((s.segments.filter (fun g => g.id ∈ newly)).map (fun g => g.customers)).sum
    let called := ∃ ref, o.linkedCall = some ref ∧ ∃ c, s.callByRef? ref = some c ∧ c.state ≠ .closed ∧
      c.effective = .a
    (¬ cut → refused .cannotIsolate) ∧
    (cut → held → refused .valveHeld) ∧
    (cut → ¬ held → r.port = .s → priority → o.override = false → ov = false → refused .priorityCut) ∧
    (cut → ¬ held → r.port = .d →
      (¬ called → refused .notPermitted) ∧
      (called → priority → refused .priorityCut) ∧
      (called → ¬ priority → (if s.presence.present then s.timing.e1 else s.timing.e2) < sum →
        refused .overLimit))) ∧
  ∀ (s : State) (r : PlannedRequest) (inp : SweepInputs) (ov : Bool) (region : List Nat)
    (steps : List Step), s.sweep.flight = .planned r inp → r.op = .commit ov region steps →
    (∀ o, s.orderByRef? r.ref = some o → o.state ≠ .proposed) →
    let off := s.unsupplied (s.supplied inp)
    ∃ t, exec .plannedSweepComplete s = .next t ∧
      t.toPicture = { s.toPicture with sweep := s.sweepAfterPlanned t s.sweep.actualPending } ∧
      t.noticesS = s.noticesS ∧ t.noticesD = s.noticesD ∧
      ∀ q, (s.port r.port).inService = some q → (t.port r.port).inService = none ∧ ∃ state : Byte,
        (t.port r.port).replies = (s.port r.port).replies ++ (if q.discard then [] else
          [replyFrame q.kind q.tag .wrongState
            (figuresPayload ((s.orderByRef? r.ref).elim r.slot (fun o => o.slot)) r.ref [state] region steps
              (s.figures off) s.sweep.number (decide (∀ i ∈ region, i ∈ off)))]) ∧
        ∀ o, s.orderByRef? r.ref = some o → state = BitVec.ofNat 8 o.state.code

/-- The limit of a dispatch commit (R164, R165): only with a linked call that is open and of effective class A, never
with a priority cut, and up to E1 customers in presence, E2 in absence; equal passes. -/
def Obligations.DispatchCommitHasItsLimits : Prop :=
  ∀ (pic : Picture) (present : Bool) (o : Order) (g : Figures),
    (pic.dispatchCheck present o g = none ↔
      (∃ ref c, o.linkedCall = some ref ∧ pic.callByRef? ref = some c ∧ c.state ≠ .closed ∧
        c.effective = .a) ∧ g.priorityCut = false ∧
      g.customerSum ≤ (if present then pic.timing.e1 else pic.timing.e2)) ∧
    (pic.dispatchCheck present o g = some .overLimit → g.priorityCut = false ∧
      (if present then pic.timing.e1 else pic.timing.e2) < g.customerSum)

/-! ### Cold start, the time base, presence -/

/-- COLD_START (R199, R194, R175, R160, R157): the values of reset; the flash keeps its bytes, but for the sector of a write
that it cuts short (log entry 9). That the queue of waiting commands stands as it was is log entry 1's, that no model is in
service until the load ends log entry 6's, that a transfer in progress is dropped log entry 37's, and a port's number as
subject log entry 15's. -/
def Obligations.ColdStartSetsTheValuesOfReset : Prop :=
  ∀ s : State, ∃ t, exec .coldStart s = .next t ∧
    t.now = 0 ∧ t.model = none ∧ t.presence = ⟨false, none, none, none⟩ ∧
    t.portS = ⟨[], none, [], false, none⟩ ∧ t.portD = ⟨[], none, [], false, none⟩ ∧
    t.portF = ⟨[], none, [], false, none⟩ ∧
    t.flow = true ∧ t.attnS = true ∧ t.attnD = true ∧ t.attnF = false ∧ t.cmdQueue = [] ∧
    t.noticesS = ⟨[⟨.restarted, 1, 0, 1, none⟩], [], false⟩ ∧
    t.noticesD = ⟨[⟨.restarted, 2, 0, 1, none⟩], [], false⟩ ∧
    t.orders = [] ∧ t.calls = [] ∧ t.outages = [] ∧
    t.nextOrderRef = 1 ∧ t.nextCallRef = 1 ∧ t.nextOutageRef = 1 ∧
    t.customersOff = 0 ∧ t.awaitingRelight = 0 ∧
    t.store = some .coldStartLoad ∧ t.pending = s.pending ∧
    (∀ k, t.permits .s k = decide (k ∈ [RequestKind.status, .portReset, .readTable, .pullNotice,
      .setNoticeMask, .proposeIsolation, .cancelOrder, .commitOrder, .beginRestore, .valveMark,
      .valveOperate, .valveAssert, .setSource, .storeRead, .storeWrite, .reload])) ∧
    (∀ k, t.permits .d k = decide (k ∈ [RequestKind.status, .portReset, .readTable, .pullNotice,
      .setNoticeMask, .proposeIsolation, .cancelOrder, .commitOrder, .crewValveReport, .purgeReport,
      .relightReport, .logCall, .nextCall, .assignCall, .callProgress])) ∧
    (∀ k, t.permits .f k = decide (k ∈ [RequestKind.status, .portReset, .unitReport, .positionReport,
      .pullCommand])) ∧
    ((∀ addr data, s.store ≠ some (.write addr data)) → t.flash = s.flash) ∧
    (s.flashSound → ∀ addr data, s.store = some (.write addr data) →
      ∀ a, sectorBase a ≠ sectorBase addr → flashRead t.flash a = flashRead s.flash a)

/-- COLD_START_LOAD_COMPLETE (R199, R49): a good image is placed in service and an actual sweep starts; a bad one, or a
flash failure, leaves NO_MODEL. Either way the RESTARTED detail is written and the store is IDLE. -/
def Obligations.LoadCompletesInServiceOrNoModel : Prop :=
  ∀ (s : State) (failed : Bool), s.store = some .coldStartLoad →
    (∀ img, failed = false → validate s.flash s.now = .ok img →
      ∃ t, exec (.coldStartLoadComplete failed) s = .next t ∧
        t.model = some ⟨img.name, img.version, s.now⟩ ∧ t.timing = img.timing ∧
        t.segments = img.segments ∧ t.valves = img.valves ∧ t.sources = img.sources ∧
        t.units = img.units ∧ t.channels = img.channels ∧ t.cmdQueue = [] ∧
        t.sweep = ⟨.actual (t.inputs []), false, [], img.segments.map (fun g => g.id), 0⟩ ∧
        t.grants = grantsOf img ∧ t.store = none ∧
        t.noticesS.queue = s.noticesS.queue.map (fun e =>
          if e.kind = .restarted then { e with detail := some (.modelState .inService) } else e) ∧
        t.noticesD.queue = s.noticesD.queue.map (fun e =>
          if e.kind = .restarted then { e with detail := some (.modelState .inService) } else e) ∧
        t.portS = s.portS ∧ t.portD = s.portD ∧ t.portF = s.portF ∧ t.presence = s.presence) ∧
    ((failed = true ∨ ∃ bad, validate s.flash s.now = .error bad) →
      ∃ t, exec (.coldStartLoadComplete failed) s = .next t ∧
        t.model = none ∧ t.timing = defaultTiming ∧ t.segments = [] ∧ t.valves = [] ∧ t.sources = [] ∧
        t.units = [] ∧ t.channels = [] ∧ t.sweep = ⟨.idle, false, [], [], 0⟩ ∧
        t.grants = defaultGrants ∧ t.store = none ∧
        t.noticesS.queue = s.noticesS.queue.map (fun e =>
          if e.kind = .restarted then { e with detail := some (.modelState .noModel) } else e) ∧
        t.noticesD.queue = s.noticesD.queue.map (fun e =>
          if e.kind = .restarted then { e with detail := some (.modelState .noModel) } else e) ∧
        t.portS = s.portS ∧ t.portD = s.portD ∧ t.portF = s.portF ∧ t.presence = s.presence)

/-- The values on placing a good image in service (R3, R6, R7, R9, R11, R63), with the limits in order after the clamps
(R10, R198). Which images are good, and at which record and for which reason another one fails (R198); that a good image
gives exactly its records, with its fields, its name and version and its timing values (R197), and the grant table its PERMIT
records' marks (R157, R158). Where R198 leaves validation open the clauses state the model's choices, all of log entry 25: a
PERMIT whose code is no request kind fails RANGE; several TIMING records are taken together, with an item given twice in any
of them DUPLICATE at the later; E1 above E2 is reported at the first TIMING record that gives either; and an END at a number
other than the count's, and a record that runs past the flash, are reported at that record. -/
def Obligations.GoodImageIsPlacedWithItsValues : Prop :=
  (∀ (m : List Host.Cell) (now : Nat) (bad : Nat × Reason), validate m now = .error bad ↔ badImage m bad.1 bad.2) ∧
  (∀ (m : List Host.Cell) (now : Nat) (recs : List ImageRecord), goodImage m recs →
    ∃ img, validate m now = .ok img ∧
      img.name = ((bodiesOf recs 0x01).flatMap (fun b => b.drop 3)) ∧ img.version = 1 ∧
      (img.segments.map (fun g => g.id)).Pairwise (· < ·) ∧
      (∀ g, g ∈ img.segments ↔ ∃ b ∈ bodiesOf recs 0x02, g = placedSegment recs b) ∧
      (img.valves.map (fun v => v.id)).Pairwise (· < ·) ∧
      (∀ v, v ∈ img.valves ↔ ∃ b ∈ bodiesOf recs 0x03, v = placedValve now b) ∧
      (img.sources.map (fun q => q.id)).Pairwise (· < ·) ∧
      (∀ q, q ∈ img.sources ↔ ∃ b ∈ bodiesOf recs 0x04, q = placedSource b) ∧
      (img.units.map (fun u => u.id)).Pairwise (· < ·) ∧
      (∀ u, u ∈ img.units ↔ ∃ b ∈ bodiesOf recs 0x05, u = placedUnit now b) ∧
      (img.channels.map (fun c => 4 * c.unit + c.index)).Pairwise (· < ·) ∧
      (∀ c, c ∈ img.channels ↔ ∃ b ∈ bodiesOf recs 0x06, c = placedChannel b) ∧
      img.timing = placedTiming recs ∧
      grantsOf img = defaultGrants.map (fun g =>
        ((bodiesOf recs 0x07).find? (fun b => u8 b 0 == g.kind.code)).elim g
          (fun b => { g with s := decide (u8 b 1 = 1), d := decide (u8 b 2 = 1) }))) ∧
  (∀ (m : List Host.Cell) (now : Nat) (img : Image), validate m now = .ok img → ∃ recs, goodImage m recs) ∧
  (∀ g ∈ defaultGrants, g.grantable = decide (g.kind ∈ grantableKinds)) ∧
  [Reason.format, .crc, .range, .duplicate, .ends, .permit, .limits, .reference, .channels, .link, .timing,
    .orphan].map Reason.code = (List.range 12).map (· + 1) ∧
  ∀ (m : List Host.Cell) (now : Nat) (img : Image), validate m now = .ok img →
    (∀ g ∈ img.segments, g.falling = false ∧ g.supply = .live ∧ g.relit = 0 ∧ g.outage = none ∧
      g.holders = [] ∧ g.unsafeA = 0 ∧
      g.summary = if img.channels.any (fun c => c.segment == g.id) then .unknown else .noChannel) ∧
    (∀ v ∈ img.valves, v.position = .unknown ∧ v.operable = true ∧ v.holder = none ∧
      v.pendingCmd = none ∧ v.window = none ∧ v.lastChange = now ∧ v.prior = none ∧
      v.outstanding = none ∧ (v.kind = .remote ↔ v.travel ≠ none) ∧ v.endA ≠ v.endB ∧
      (∀ w ∈ v.travel, 1 ≤ w.1 ∧ w.1 < w.2 ∧ w.2 ≤ 600)) ∧
    (∀ q ∈ img.sources, q.state = .live ∧ q.cause = none) ∧
    (∀ u ∈ img.units, u.watch = .silent ∧ u.deadline = now + u.timeout ∧ u.tripped = false ∧
      10 ≤ u.timeout ∧ u.timeout ≤ 3600 ∧ 1 ≤ u.channelCount ∧ u.channelCount ≤ 4) ∧
    (∀ c ∈ img.channels, c.raw = none ∧ c.p = none ∧ c.f = none ∧ c.state = .unknown ∧
      c.underRange = false ∧ c.overRange = false ∧ c.falling = false ∧ c.updated = none ∧
      c.lowPending = false ∧ 1 ≤ c.gain ∧ c.shift ≤ 4 ∧
      c.loEnter ≤ c.loExit ∧ c.loExit < c.hiExit ∧ c.hiExit ≤ c.hiEnter)

/-- SECONDS_COUNTER_TICK (R195): the counter increases by 1, and stops at 4,294,967,295. PRESENCE_EXPIRY (R162): at the
deadline presence becomes ABSENT, the deadline is cleared, and SUPERVISORY_ABSENT is raised with the time of the last
admission, to Port D alone; before the deadline nothing happens (log entry 2), and an expiry may come after its deadline,
which the counter passes without waiting for it (log entry 3). The subject 1 for Port S is log entry 15's. -/
def Obligations.CounterTicksAndPresenceExpires : Prop :=
  (∀ s : State, exec .secondsCounterTick s =
    .next { s with now := if s.now < 4294967295 then s.now + 1 else s.now }) ∧
  ∀ (s : State) (d : Nat), s.presence.present = true → s.presence.deadline = some d →
    (d ≤ s.now → ∃ t, exec .presenceExpiry s = .next t ∧
      t.presence = ⟨false, none, s.presence.lastAdmission, some s.now⟩ ∧
      t.noticesD = s.noticesD.receive s.now
        ⟨.supervisoryAbsent, 1, s.presence.lastAdmission.map Detail.time⟩ ∧
      t.noticesS = s.noticesS ∧ t.toPicture = s.toPicture) ∧
    (s.now < d → exec .presenceExpiry s = .next s)

/-! ### Transfers and ports -/

/-- TRANSFER_START, READ_TRANSFER and STATUS_TRANSFER (R179, R180, R186): the start forms the status byte, clears the flag
and chooses a read's reply; the end of a read removes the chosen reply only if all of it was clocked. The part drives the
status byte, then on a read the frame chosen and 0x00 after its end, and 0x00 alone where no reply waited and on every other
transfer (R179, R186). The bits of the status byte are those of R180. -/
def Obligations.TransfersStartAndEnd : Prop :=
  ∀ (s : State) (p : Port),
    (∀ code, (s.port p).transfer = none →
      exec (.transferStart p code) s = .next (s.setPort p { s.port p with
        discarded := false
        transfer := some ⟨code, s.statusByte p,
          if code = 0x30#8 then (s.port p).replies.head? else none⟩ }).settle) ∧
    (∀ x n, (s.port p).transfer = some x → x.code = 0x30#8 →
      exec (.readTransfer p n) s = .next (s.setPort p { s.port p with
        transfer := none
        replies := if x.chosen.any (fun f => decide (f.length ≤ n)) then (s.port p).replies.drop 1
          else (s.port p).replies }).settle) ∧
    (∀ x, (s.port p).transfer = some x → x.code ≠ 0xC0#8 → x.code ≠ 0x30#8 →
      exec (.statusTransfer p) s = .next (s.setPort p { s.port p with transfer := none }).settle) ∧
    (∀ x, (s.port p).transfer = some x → ∀ i, x.drives 0 = x.status ∧
      (x.code ≠ 0x30#8 ∨ x.chosen = none → x.drives (i + 1) = 0x00#8) ∧
      (∀ f, x.code = 0x30#8 → x.chosen = some f →
        (∀ h : i < f.length, x.drives (i + 1) = f[i]) ∧ (f.length ≤ i → x.drives (i + 1) = 0x00#8))) ∧
    (s.statusByte p).getLsbD 7 = !(s.port p).replies.isEmpty ∧
    (s.statusByte .s).getLsbD 6 = !s.noticesS.queue.isEmpty ∧
    (s.statusByte .d).getLsbD 6 = !s.noticesD.queue.isEmpty ∧
    (s.statusByte .f).getLsbD 6 = !s.cmdQueue.isEmpty ∧
    (s.statusByte p).getLsbD 5 = (s.port p).discarded ∧
    (p ≠ .f → (s.statusByte p).toNat / 8 % 4 = 2 - (s.port p).fill p) ∧
    (s.statusByte .f).getLsbD 4 = false ∧
    (s.statusByte .f).getLsbD 3 = decide (s.portF.inbound.length < 64) ∧
    (s.statusByte p).toNat % 8 = 0

/-- WRITE_TRANSFER (R184, R188): the cases of admission in their order. A malformed frame, a bad CRC, or a status byte that
showed no room discards the frame and sets the flag; a PORT_RESET frame is taken at once, which is the command PORT_RESET
(log entry 5); any other frame joins the inbound store, and on Port S restarts presence (R161). The subject 1 of
SUPERVISORY_PRESENT is log entry 15's. -/
def Obligations.WriteTransferAdmitsOrDiscards : Prop :=
  ∀ (s : State) (p : Port) (x : Transfer) (bytes : List Byte),
    (s.port p).transfer = some x → x.code = 0xC0#8 →
    let len := (bytes.getD 3 0).toNat
    let good := 6 ≤ bytes.length ∧ bytes.getD 0 0 = 0xA5#8 ∧ len ≤ 240 ∧ bytes.length = len + 6 ∧
      crc16 bytes = 0#16
    let dropped := (s.setPort p { s.port p with transfer := none, discarded := true }).settle
    (¬ good → exec (.writeTransfer p bytes) s = .next dropped) ∧
    (good → bytes.getD 1 0 = 0x02#8 →
      exec (.writeTransfer p bytes) s = exec (.portReset p (bytes.getD 2 0)) s) ∧
    (good → bytes.getD 1 0 ≠ 0x02#8 → x.status &&& 0x18#8 = 0#8 →
      exec (.writeTransfer p bytes) s = .next dropped) ∧
    (good → bytes.getD 1 0 ≠ 0x02#8 → x.status &&& 0x18#8 ≠ 0#8 →
      ∃ t, exec (.writeTransfer p bytes) s = .next t ∧
        t.port p = { s.port p with
          transfer := none
          inbound := (s.port p).inbound ++
            [⟨bytes.getD 1 0, bytes.getD 2 0, (bytes.drop 4).take len⟩] } ∧
        t.toPicture = s.toPicture ∧ t.noticesS = s.noticesS ∧
        (p = .s → t.presence = ⟨true, some (s.now + s.timing.presenceTimeout), some s.now,
            s.presence.absentSince⟩ ∧
          t.noticesD = if s.presence.present then s.noticesD else s.noticesD.receive s.now
            ⟨.supervisoryPresent, 1, s.presence.absentSince.map Detail.time⟩) ∧
        (p ≠ .s → t.presence = s.presence ∧ t.noticesD = s.noticesD))

/-- PORT_RESET (R190, R176, R189): the port's stores are emptied, the request in service will have its reply discarded, the
reply is DONE, and on Ports S and D the notice state is reset with RESYNC. A frame on Port S restarts presence, and from
ABSENT raises SUPERVISORY_PRESENT on Port D (R161, R162). The command is the end of the write transfer that carries the
frame (log entry 5); a port's number as subject is log entry 15's. -/
def Obligations.PortResetActsOnItsOwnPort : Prop :=
  ∀ (s : State) (p : Port) (tag : Byte) (x : Transfer),
    (s.port p).transfer = some x → x.code = 0xC0#8 →
    ∃ t, exec (.portReset p tag) s = .next t ∧
      t.port p =
        { inbound := []
          inService := (s.port p).inService.map (fun r => { r with discard := true })
          replies := [replyFrame 0x02#8 tag .done []]
          discarded := false
          transfer := none } ∧
      t.toPicture = s.toPicture ∧ t.grants = s.grants ∧ t.store = s.store ∧ t.flash = s.flash ∧
      (p = .s → t.noticesS =
          ⟨[⟨.resync, 1, s.now, 1, some (.dropped s.noticesS.queue.length)⟩], [], false⟩ ∧
        t.presence = ⟨true, some (s.now + s.timing.presenceTimeout), some s.now, s.presence.absentSince⟩ ∧
        t.noticesD = if s.presence.present then s.noticesD else s.noticesD.receive s.now
          ⟨.supervisoryPresent, 1, s.presence.absentSince.map Detail.time⟩) ∧
      (p = .d → t.noticesD =
          ⟨[⟨.resync, 2, s.now, 1, some (.dropped s.noticesD.queue.length)⟩], [], false⟩ ∧
        t.noticesS = s.noticesS ∧ t.presence = s.presence) ∧
      (p = .f → t.noticesS = s.noticesS ∧ t.noticesD = s.noticesD ∧ t.presence = s.presence ∧
        t.flow = true)

/-- The checks common to all requests (R187): UNKNOWN_KIND, NOT_PERMITTED, NO_MODEL, BAD_LENGTH, in this order, and nothing
else changed. A report that Port F takes and that fails NO_MODEL or BAD_LENGTH is discarded with the flag set (R188). The
lengths that each kind allows are those of R192, the kinds served without a model those of R187, and a port is permitted by
its mark in the kind's grant entry (R159). -/
def Obligations.CommonChecksRefuse : Prop :=
  (∀ pl : List Byte,
    (∀ x ∈ [(RequestKind.status, 0), (.readTable, 7), (.pullNotice, 0), (.commitOrder, 3),
      (.cancelOrder, 2), (.beginRestore, 2), (.valveOperate, 3), (.valveAssert, 3), (.valveMark, 3),
      (.setSource, 2), (.crewValveReport, 3), (.logCall, 2), (.nextCall, 0), (.assignCall, 4),
      (.callProgress, 3), (.purgeReport, 1), (.relightReport, 3), (.storeRead, 3), (.reload, 0),
      (.positionReport, 3), (.pullCommand, 0)], lengthFits x.1 pl = true ↔ pl.length = x.2) ∧
    lengthFits .portReset pl = true ∧
    (lengthFits .setNoticeMask pl = true ↔ pl ≠ [] ∧ pl.length = 1 + (pl.getD 0 0).toNat) ∧
    (lengthFits .proposeIsolation pl = true ↔ 5 ≤ pl.length ∧ pl.length = 5 + 3 * (pl.getD 4 0).toNat) ∧
    (lengthFits .storeWrite pl = true ↔ 3 ≤ pl.length ∧ pl.length ≤ 130) ∧
    (lengthFits .unitReport pl = true ↔ 4 ≤ pl.length ∧ pl.length = 4 + 2 * (pl.getD 3 0).toNat)) ∧
  (∀ k : RequestKind,
    servedWithoutModel k = decide (k ∈ [RequestKind.status, .portReset, .storeRead, .storeWrite, .reload])) ∧
  (∀ (s : State) (k : RequestKind),
    let entry := s.grants.find? (fun g => g.kind == k)
    s.permits .s k = entry.any (fun g => g.s) ∧ s.permits .d k = entry.any (fun g => g.d) ∧
    s.permits .f k = entry.any (fun g => g.f)) ∧
  (∀ (s : State) (p : Port) (f : Request) (rest : List Request),
    (s.port p).inbound = f :: rest → RequestKind.ofCode f.kind.toNat = none →
    (s.port p).inService = none → (s.port p).replies.length < 2 → s.store ≠ some .coldStartLoad →
    exec (.unknownKindRequest p) s =
      .next ((s.taken p rest).placeReply p f.kind f.tag (.unknownKind, [])).settle) ∧
  (∀ (s : State) (p : Port) (k : RequestKind) (c : Instr) (tag : Byte) (pl : List Byte)
    (rest : List Request), requestCommand k p = some c → s.offers p k tag pl rest →
    ¬ (p = .f ∧ (k = .unitReport ∨ k = .positionReport)) →
    (s.permits p k = false → exec c s = .next ((s.taken p rest).answer p k tag .notPermitted [])) ∧
    (s.permits p k = true → s.model = none → servedWithoutModel k = false →
      exec c s = .next ((s.taken p rest).answer p k tag .noModel [])) ∧
    (s.permits p k = true → s.model ≠ none ∨ servedWithoutModel k = true → lengthFits k pl = false →
      exec c s = .next ((s.taken p rest).answer p k tag .badLength []))) ∧
  (∀ (s : State) (k : RequestKind) (c : Instr) (tag : Byte) (pl : List Byte) (rest : List Request),
    k = .unitReport ∨ k = .positionReport → requestCommand k .f = some c →
    s.portF.inbound = ⟨k.byte, tag, pl⟩ :: rest → s.portF.inService = none →
    s.store ≠ some .coldStartLoad → s.permits .f k = true → s.model = none ∨ lengthFits k pl = false →
    exec c s = .next ((s.taken .f rest).setPort .f
      { (s.taken .f rest).portF with discarded := true }).settle)

/-- A request that is refused changes nothing: whatever its kind and whichever check refused it, the state is the one the
taking left, with the reply in its buffer (R187, and the own checks of each request). -/
def Obligations.RefusedRequestsChangeNothing : Prop :=
  ∀ (s t : State) (p : Port) (k : RequestKind) (c : Instr) (tag : Byte) (pl : List Byte)
    (rest : List Request) (frame : List Byte),
    requestCommand k p = some c → s.offers p k tag pl rest → exec c s = .next t →
    (t.port p).replies = (s.port p).replies ++ [frame] → 2 < (frame.getD 3 0).toNat →
    ∃ code, 2 < code.code ∧ t = (s.taken p rest).answer p k tag code []

/-- STATUS (R191): DONE with the 18 bytes of the part's state, and nothing changed (codes of enumerated fields: log entry
15). -/
def Obligations.StatusRepliesItsFields : Prop :=
  ∀ (s : State) (p : Port) (tag : Byte) (pl : List Byte) (rest : List Request),
    s.offers p .status tag pl rest → s.passes p .status pl → s.now < 4294967296 →
    exec (.status p) s = .next ((s.taken p rest).answer p .status tag .done
      ((if s.model = none then [0x02#8] else [0x01#8]) ++ bytesOf 4 s.now ++
        (if s.presence.present then [0x01#8] else [0x02#8]) ++ bytesOf 3 s.customersOff ++
        bytesOf 3 s.awaitingRelight ++
        bytesOf 1 (s.calls.filter (fun c => c.state != .closed)).length ++
        bytesOf 1 (s.calls.filter (fun c => c.state == .new)).length ++
        bytesOf 1 (s.orders.filter (fun o =>
          o.state != .done && o.state != .cancelled && o.state != .expired)).length ++
        bytesOf 2 s.sweep.number ++ (if s.store = none then [0x00#8] else [0x01#8])))

/-- READ_TABLE (R13 to R21): it changes nothing; the table, the addressing mode, the index range and the list selector are
checked in turn, and an index that names no record is refused NO_SUCH. A record reply carries the record's fields, by slot
and by reference alike; a list reply (R16) carries the entries from the start position on, at most the page of R14, and a
start position beyond the list is refused BAD_VALUE. The codings are those of R182. The layouts that the rules leave open
are log entries 12 to 14, 34, 38 and 41, the codes of a port log entry 15, the HOLDERS of a number that two orders carry log
entry 36. -/
def Obligations.ReadTableChecksItsFieldsAndReadsOnly : Prop :=
  (∀ (s : State) (p : Port) (tag : Byte) (pl : List Byte) (rest : List Request),
    s.offers p .readTable tag pl rest → s.passes p .readTable pl →
    exec (.readTable p) s = .next ((s.taken p rest).answer p .readTable tag (s.readTable pl).1
      (s.readTable pl).2)) ∧
  (∀ (s : State) (table mode selector : Byte) (index start : Nat), index ≤ 65535 → start ≤ 65535 →
    let pl := [table, mode] ++ bytesOf 2 index ++ [selector] ++ bytesOf 2 start
    let tables := 1 ≤ table.toNat ∧ table.toNat ≤ 12
    let modes := mode.toNat = 1 ∨ (mode.toNat = 2 ∧ 6 ≤ table.toNat ∧ table.toNat ≤ 8)
    let highest := [255, 511, 15, 63, 255, 15, 127, 31, 255, 0, 0, 0].getD (table.toNat - 1) 0
    let indices := if mode.toNat = 1 then index ≤ highest else 1 ≤ index
    let selectors := selector.toNat ≤ [3, 0, 1, 0, 0, 4, 1, 2, 0, 2, 0, 0].getD (table.toNat - 1) 0
    (¬ (tables ∧ modes ∧ indices ∧ selectors) → s.readTable pl = (.badValue, [])) ∧
    (tables → modes → indices → selectors →
      (s.shown table.toNat mode.toNat index = none → s.readTable pl = (.noSuch, [])) ∧
      (∀ x, s.shown table.toNat mode.toNat index = some x →
        (selector = 0#8 → s.readTable pl =
          (.done, [table] ++ bytesOf 2 index ++ x.slot ++ x.ref ++ x.fields)) ∧
        (selector ≠ 0#8 → ∃ l, x.lists[selector.toNat - 1]? = some l ∧
          (l.entries.length < start → s.readTable pl = (.badValue, [])) ∧
          (start ≤ l.entries.length → s.readTable pl = (.done,
            [table] ++ bytesOf 2 index ++ x.ref ++ [selector] ++ bytesOf 2 l.entries.length ++
            bytesOf 2 start ++ bytesOf l.width (min (l.entries.length - start) l.page) ++
            ((l.entries.drop start).take l.page).flatten)))))) ∧
  (∀ n, n < 4294967296 → encTime n = bytesOf 4 n) ∧
  (∀ (α : Type) (width : Nat) (enc : α → List Byte), encOpt width enc none = 0#8 :: List.replicate width 0#8 ∧
    ∀ x, encOpt width enc (some x) = 1#8 :: enc x) ∧
  encFlag true = [1#8] ∧ encFlag false = [0#8] ∧
  (∀ ids : List Nat, (encSet ids).length = 32 ∧
    ∀ k, k < 256 → ((encSet ids).getD (k / 8) 0).getLsbD (7 - k % 8) = ids.contains k) ∧
  [Tier.ip, .mp, .lp].map Tier.code = [1, 2, 3] ∧
  [Summary.noChannel, .unknown, .normal, .low, .high].map Summary.code = [1, 2, 3, 4, 5] ∧
  [Supply.live, .off, .purge, .relight].map Supply.code = [1, 2, 3, 4] ∧
  [ValveKind.manual, .remote].map ValveKind.code = [1, 2] ∧
  [Position.open_, .closed, .closing, .opening, .unknown, .fault].map Position.code = [1, 2, 3, 4, 5, 6] ∧
  [Action.open_, .close].map Action.code = [1, 2] ∧ [SourceState.live, .out].map SourceState.code = [1, 2] ∧
  [OutCause.operator, .trip].map OutCause.code = [1, 2] ∧
  [WatchState.silent, .fresh, .stale].map WatchState.code = [1, 2, 3] ∧
  [ChannelState.unknown, .normal, .low, .high, .fault, .stale].map ChannelState.code = [1, 2, 3, 4, 5, 6] ∧
  [Port.s, .d, .f].map portCode = [1, 2, 3] ∧
  [StepState.waiting, .issued, .confirmed, .failed, .blocked, .reopened].map StepState.code =
    [1, 2, 3, 4, 5, 6] ∧
  [OrderState.proposed, .executing, .isolated, .letby, .breached, .restoring, .done, .cancelled,
    .expired].map OrderState.code = [1, 2, 3, 4, 5, 6, 7, 8, 9] ∧
  [Verification.verified, .unconfirmed].map Verification.code = [1, 2] ∧
  [CallClass.a, .b, .c].map CallClass.code = [1, 2, 3] ∧
  [CallState.new, .assigned, .onSite, .madeSafe, .closed].map CallState.code = [1, 2, 3, 4, 5] ∧
  [OutageState.active, .restoring, .closed].map OutageState.code = [1, 2, 3]

/-- The dispatch queue holds exactly the calls in NEW, in the order of class, level, first report time and reference (R126);
NEXT_CALL reads its head and changes nothing (R127). The empty mark is log entry 16's, the width of the slot and of
the escalation level log entry 12's, the deadline's plain 4 bytes log entry 35's. -/
def Obligations.DispatchQueueIsInOrderAndNextCallReadsItsHead : Prop :=
  (∀ pic : Picture,
    pic.dispatchQueue.Perm (pic.calls.filter (fun c => c.state == .new)) ∧
    pic.dispatchQueue.Pairwise (fun x y => y.before x = false)) ∧
  (∀ x y : Call, x.before y = true ↔ x.effective.rank < y.effective.rank ∨
    (x.effective = y.effective ∧ (y.level < x.level ∨
      (x.level = y.level ∧ (x.first < y.first ∨ (x.first = y.first ∧ x.ref < y.ref)))))) ∧
  (∀ (s : State) (p : Port) (tag : Byte) (pl : List Byte) (rest : List Request),
    s.offers p .nextCall tag pl rest → s.passes p .nextCall pl →
    (s.dispatchQueue = [] →
      exec (.nextCall p) s = .next ((s.taken p rest).answer p .nextCall tag .done [1#8, 0#8])) ∧
    (∀ c others d, s.dispatchQueue = c :: others → c.deadline = some d → c.first < 4294967296 →
      c.last < 4294967296 → d < 4294967296 →
      exec (.nextCall p) s = .next ((s.taken p rest).answer p .nextCall tag .done
        (bytesOf 1 c.slot ++ bytesOf 2 c.ref ++ bytesOf 1 c.segment ++ bytesOf 1 c.reported.code ++
          bytesOf 1 c.effective.code ++ (if c.corroborated then [1#8] else [0#8]) ++
          bytesOf 1 c.level ++ bytesOf 4 c.first ++ bytesOf 4 c.last ++ bytesOf 1 c.merged ++
          bytesOf 4 d ++ bytesOf 1 (others.length + 1)))))

/-! ### Notices -/

/-- What a raise does to a port's notice state (R170, R171, R172), and where each kind is routed (R169). -/
def Obligations.RaisesAreRoutedAndQueued : Prop :=
  (∀ (now : Nat) (np : NoticePort) (r : Raise),
    (r.kind ∈ np.mask → np.receive now r = np) ∧
    (r.kind ∉ np.mask → (∃ e ∈ np.queue, e.kind = r.kind ∧ e.subject = r.subject) →
      np.receive now r = { np with queue := np.queue.map (fun e =>
        if e.kind = r.kind ∧ e.subject = r.subject then
          { e with count := min (e.count + 1) 255, detail := r.detail } else e) }) ∧
    (r.kind ∉ np.mask → (∀ e ∈ np.queue, ¬ (e.kind = r.kind ∧ e.subject = r.subject)) →
      (np.queue.length < 32 → np.receive now r =
        { np with queue := np.queue ++ [⟨r.kind, r.subject, now, 1, r.detail⟩] }) ∧
      (32 ≤ np.queue.length → np.receive now r = { np with overflow := true }))) ∧
  (∀ r : Raise, r.kind ≠ .callNew → r.kind ≠ .callRaised → r.kind ≠ .callOverdue →
    routedToS r = decide (r.kind ∈ [NoticeKind.pressureLow, .pressureHigh, .pressureNormal, .rapidFall,
      .channelFault, .unitStale, .unitFresh, .sourceState, .valveFault, .valveMoved, .orderState,
      .letby, .breach, .outageOpened, .outageChanged, .outageClosed])) ∧
  (∀ r : Raise, (r.kind = .callNew ∨ r.kind = .callRaised →
      routedToS r = decide (r.detail = some (.callClass .a))) ∧
    (r.kind = .callOverdue →
      routedToS r = decide (r.detail = some (.level 2) ∨ r.detail = some (.level 3)))) ∧
  (∀ r : Raise, routedToD r = decide (r.kind ∈ [NoticeKind.sourceState, .valveFault, .crewInstruction,
      .orderState, .letby, .breach, .callNew, .callRaised, .callOverdue, .outageOpened,
      .outageChanged, .outageClosed, .supervisoryAbsent, .supervisoryPresent])) ∧
  (∀ (s : State) (r : Raise),
    (s.route [r]).noticesS = (if routedToS r then s.noticesS.receive s.now r else s.noticesS) ∧
    (s.route [r]).noticesD = (if routedToD r then s.noticesD.receive s.now r else s.noticesD))

/-- PULL_NOTICE (R173) and SET_NOTICE_MASK (R170) on Ports S and D; the mask in a reply is a count and the codes in
ascending order (log entry 12). An entry of PULL_NOTICE takes 17 bytes (R193): the kind by its code, the subject, the time,
the raise count, and the detail as an optional field of 8 bytes, whose parts are those that R44, R85, R114, R138, R153, R162,
R175 and R176 list (marks and parts that may be absent: log entry 14; codes: log entries 15 and 39). -/
def Obligations.NoticeRequestsActOnTheirPort : Prop :=
  (∀ e : NoticeEntry, e.first < 4294967296 → encNotice e =
    bytesOf 1 e.kind.code ++ bytesOf 2 e.subject ++ bytesOf 4 e.first ++ bytesOf 1 e.count ++
      (match e.detail with
        | none => List.replicate 9 0#8
        | some d => [1#8] ++ d.parts ++ List.replicate (8 - d.parts.length) 0#8)) ∧
  [NoticeKind.pressureLow, .pressureHigh, .pressureNormal, .rapidFall, .channelFault, .unitStale, .unitFresh,
    .sourceState, .valveFault, .valveMoved, .crewInstruction, .orderState, .letby, .breach, .callNew, .callRaised,
    .callOverdue, .outageOpened, .outageChanged, .outageClosed, .supervisoryAbsent, .supervisoryPresent, .restarted,
    .resync].map NoticeKind.code = (List.range 24).map (· + 1) ∧
  (∀ n : Nat, (Detail.pressure n).parts = bytesOf 3 n ∧ (Detail.channel n).parts = bytesOf 1 n ∧
    (Detail.breachValve n).parts = [1#8] ++ bytesOf 2 n ∧ (Detail.breachSegment n).parts = [2#8] ++ bytesOf 1 n ∧
    (Detail.level n).parts = bytesOf 1 n ∧ (Detail.members n).parts = bytesOf 2 n ∧
    (Detail.dropped n).parts = bytesOf 1 n ∧ (n < 4294967296 → (Detail.time n).parts = bytesOf 4 n)) ∧
  ([WatchState.silent, .fresh, .stale].map (fun w => (Detail.watchLeft w).parts) = [[1#8], [2#8], [3#8]] ∧
   [FaultCause.stuck, .implausible].map (fun c => (Detail.faultCause c).parts) = [[1#8], [2#8]] ∧
   [Position.open_, .closed, .closing, .opening, .unknown, .fault].map (fun q => (Detail.position q).parts) =
     [[1#8], [2#8], [3#8], [4#8], [5#8], [6#8]] ∧
   [Instruction.close, .open_, .hold].map (fun i => (Detail.instruction i).parts) = [[1#8], [2#8], [3#8]] ∧
   [CallClass.a, .b, .c].map (fun cls => (Detail.callClass cls).parts) = [[1#8], [2#8], [3#8]] ∧
   [ModelState.inService, .noModel].map (fun m => (Detail.modelState m).parts) = [[1#8], [2#8]] ∧
   (Detail.sourceState .live none).parts = [1#8, 0#8, 0#8] ∧
   [OutCause.operator, .trip].map (fun c => (Detail.sourceState .out (some c)).parts) =
     [[2#8, 1#8, 1#8], [2#8, 1#8, 2#8]] ∧
   [OrderState.proposed, .executing, .isolated, .letby, .breached, .restoring, .done, .cancelled, .expired].map
     (fun st => (Detail.orderState st none).parts) = (List.range 9).map (fun i => bytesOf 1 (i + 1) ++ [0#8, 0#8]) ∧
   [Verification.verified, .unconfirmed].map (fun r => (Detail.orderState .isolated (some r)).parts) =
     [[3#8, 1#8, 1#8], [3#8, 1#8, 2#8]] ∧
   Detail.chainComplete.parts = [10#8]) ∧
  (∀ ref off awaiting : Nat,
    (Detail.outageOpened (.order ref) off).parts = [1#8, 1#8] ++ bytesOf 2 ref ++ bytesOf 3 off ∧
    (Detail.outageOpened .unplanned off).parts = [2#8, 0#8, 0#8, 0#8] ++ bytesOf 3 off ∧
    (Detail.outageOpened .mixed off).parts = [3#8, 0#8, 0#8, 0#8] ++ bytesOf 3 off ∧
    [OutageState.active, .restoring, .closed].map (fun st => (Detail.outageChanged st off awaiting).parts) =
      [1#8, 2#8, 3#8].map (fun b => [b] ++ bytesOf 3 off ++ bytesOf 3 awaiting)) ∧
  ∀ (s : State) (p : Port) (tag : Byte) (pl : List Byte) (rest : List Request), p ≠ .f →
    (s.offers p .pullNotice tag pl rest → s.passes p .pullNotice pl →
      exec (.pullNotice p) s = .next (((s.taken p rest).setNotices p
          { s.notices p with queue := (s.notices p).queue.drop 8, overflow := false }).answer p
        .pullNotice tag .done
        (bytesOf 1 (min (s.notices p).queue.length 8) ++
          (if (s.notices p).overflow then [1#8] else [0#8]) ++
          bytesOf 1 ((s.notices p).queue.length - 8) ++
          ((s.notices p).queue.take 8).flatMap encNotice))) ∧
    (s.offers p .setNoticeMask tag pl rest → s.passes p .setNoticeMask pl →
      ((∃ b ∈ pl.drop 1, b.toNat = 0 ∨ 22 < b.toNat) →
        exec (.setNoticeMask p) s =
          .next ((s.taken p rest).answer p .setNoticeMask tag .badValue [])) ∧
      ((∀ b ∈ pl.drop 1, 1 ≤ b.toNat ∧ b.toNat ≤ 22) → ∃ mask : List NoticeKind,
        (∀ k, k ∈ mask ↔ ∃ b ∈ pl.drop 1, b.toNat = k.code) ∧
        mask.Pairwise (fun x y => x.code < y.code) ∧
        exec (.setNoticeMask p) s = .next (((s.taken p rest).setNotices p
          { s.notices p with mask := mask }).answer p .setNoticeMask tag .done
          (bytesOf 1 mask.length ++ mask.flatMap (fun k => bytesOf 1 k.code)))))

/-! ### Orders -/

/-- PROPOSE_ISOLATION that passes (R88, R90, R93, R135): the record, the reference, the link of the named call, and the
planned request; its slot leaves the order of becoming terminal, nothing else of the picture changes, no notice is raised,
and the request stays in service. One that fails is refused with the code of the first check that fails: the flag byte (R182;
its place before the others is log entry 32's), then R90's. The slot is the lowest never used, else that of the record that
became terminal earliest, and no other record is displaced (R88); the steps are read 3 bytes each from offset 5 (R192); an
explicit list gives the target alone as region, and its steps if each names a valve in service that is operable and not in
FAULT (R92). -/
def Obligations.ProposalIsRecordedAndHeld : Prop :=
  (∀ pic : Picture, slotChosen (pic.orders.map (fun o => o.slot)) 16 pic.terminalSlots pic.orderSlot ∧
    (pic.ordersSound →
      (∀ k, pic.orderSlot = some k → ∀ o ∈ pic.orders, o.slot = k → o.terminal = true) ∧
      (pic.orderSlot = none → ∀ o ∈ pic.orders, o.terminal = false))) ∧
  (∀ (pl : List Byte) (start count : Nat), stepsOf pl start count = (List.range count).map (fun i =>
    ⟨u16 pl (start + 3 * i), u8 pl (start + 3 * i + 2), .waiting⟩)) ∧
  (∀ (pic : Picture) (target : Nat) (steps : List Step),
    let usable := ∀ x ∈ steps, ∃ v, pic.valve? x.valve = some v ∧ v.operable = true ∧ v.position ≠ .fault
    (usable → pic.formRegion false target steps = some ([target], steps)) ∧
    (¬ usable → pic.formRegion false target steps = none)) ∧
  (∀ (s : State) (p : Port) (tag : Byte) (pl : List Byte) (rest : List Request) (region : List Nat)
    (steps : List Step) (slot : Nat),
    s.offers p .proposeIsolation tag pl rest → s.passes p .proposeIsolation pl → s.engineSound →
    let target := u8 pl 0
    let call := u16 pl 1
    let count := u8 pl 4
    let r : PlannedRequest := ⟨p, .propose, slot, s.nextOrderRef, steps.map (fun x => x.valve)⟩
    u8 pl 3 ≤ 1 → count ≤ 32 → (∀ x ∈ stepsOf pl 5 count, x.valve ≤ 511 ∧ x.rank ≤ 7) →
    (stepsOf pl 5 count).Pairwise (fun x y => x.valve ≠ y.valve) →
    s.segment? target ≠ none → (call ≠ 0 → s.callByRef? call ≠ none) →
    s.formRegion (decide (count = 0)) target (stepsOf pl 5 count) = some (region, steps) →
    s.orderSlot = some slot →
    ∃ t, exec (.proposeIsolation p) s = .next t ∧ s.held t p .proposeIsolation tag rest ∧
      t.order? slot = some
        { slot := slot, ref := s.nextOrderRef, origin := p,
          linkedCall := if call = 0 then none else some call, target := target, region := region,
          automatic := decide (count = 0), steps := steps, expectedOff := [], newlyAffected := [],
          customerSum := 0, priorityCut := false, override := decide (u8 pl 3 = 1),
          state := .proposed, proposed := s.now, verification := none, decayDeadline := none,
          decayList := [], figuresPending := true, commitInHand := false, cancelling := false,
          expiry := some (s.now + s.timing.proposalLifetime), reopening := none } ∧
      (∀ k, k ≠ slot → t.order? k = s.order? k) ∧
      t.toPicture = { s.toPicture with
        orders := t.orders
        nextOrderRef := if s.nextOrderRef = 65535 then 1 else s.nextOrderRef + 1
        terminalSlots := s.terminalSlots.filter (· != slot)
        calls := s.calls.map (fun c => if call ≠ 0 ∧ (s.callByRef? call).any (fun x =>
          x.slot = c.slot ∧ x.links.length < 4) then { c with links := c.links ++ [s.nextOrderRef] }
          else c)
        sweep := s.sweepWith r } ∧
      t.noticesS = s.noticesS ∧ t.noticesD = s.noticesD) ∧
  ∀ (s : State) (p : Port) (tag : Byte) (pl : List Byte) (rest : List Request),
    s.offers p .proposeIsolation tag pl rest → s.passes p .proposeIsolation pl →
    (1 < u8 pl 3 → exec (.proposeIsolation p) s = s.refuses p .proposeIsolation tag rest .badValue) ∧
    (u8 pl 3 ≤ 1 →
    let target := u8 pl 0
    let call := u16 pl 1
    let count := u8 pl 4
    let listed := stepsOf pl 5 count
    let good := count ≤ 32 ∧ (∀ x ∈ listed, x.valve ≤ 511 ∧ x.rank ≤ 7) ∧
      listed.Pairwise (fun x y => x.valve ≠ y.valve)
    let named := s.segment? target ≠ none ∧ (call ≠ 0 → s.callByRef? call ≠ none)
    (¬ good → exec (.proposeIsolation p) s = s.refuses p .proposeIsolation tag rest .badValue) ∧
    (good → ¬ named → exec (.proposeIsolation p) s = s.refuses p .proposeIsolation tag rest .noSuch) ∧
    (good → named → s.formRegion (decide (count = 0)) target listed = none →
      exec (.proposeIsolation p) s = s.refuses p .proposeIsolation tag rest .cannotIsolate) ∧
    (good → named → s.formRegion (decide (count = 0)) target listed ≠ none → s.orderSlot = none →
      exec (.proposeIsolation p) s = s.refuses p .proposeIsolation tag rest .tableFull))

/-- Boundary expansion (R91): the region it forms holds the target and at most 16 segments, its steps are exactly the valves
of its boundary, 1 to 32 of them, each operable and not in FAULT, with rank 0; and it never fails for want of rounds. It
takes in what lies past the lowest-numbered boundary valve that is inoperable or in FAULT, as long as there is one, and
nothing else; and it fails at a source, at a 17th segment, and at a boundary of no or of more than 32 valves, and only
there (Picture.Expands). -/
def Obligations.ExpansionEndsAtAnOperableBoundary : Prop :=
  ∀ (pic : Picture) (target : Nat),
    (∀ region steps, pic.formRegion true target [] = some (region, steps) →
      target ∈ region ∧ region.length ≤ 16 ∧ region.Pairwise (· < ·) ∧
      steps = (pic.rim region).map (fun v => ⟨v.id, 0, .waiting⟩) ∧
      1 ≤ steps.length ∧ steps.length ≤ 32 ∧
      ∀ v ∈ pic.rim region, v.operable = true ∧ v.position ≠ .fault) ∧
    (∀ n, 17 ≤ n → pic.expand n [target] = pic.formRegion true target []) ∧
    ((pic.valves.map (fun v => v.id)).Pairwise (· < ·) →
      pic.Expands [target] (pic.formRegion true target [])) ∧
    (∀ steps, pic.formRegion true target steps = pic.formRegion true target [])

/-- COMMIT_ORDER (R96): its checks in their order, after that of the flag byte (log entry 32); one that passes marks the
order, disarms its expiry and joins the sweep engine with the region and steps formed at this moment, and nothing else of the
picture changes. -/
def Obligations.CommitIsTakenWithItsRegion : Prop :=
  ∀ (s : State) (p : Port) (tag : Byte) (pl : List Byte) (rest : List Request),
    s.offers p .commitOrder tag pl rest → s.passes p .commitOrder pl →
    (1 < u8 pl 2 → exec (.commitOrder p) s = s.refuses p .commitOrder tag rest .badValue) ∧
    (u8 pl 2 ≤ 1 → s.orderByRef? (u16 pl 0) = none →
      exec (.commitOrder p) s = s.refuses p .commitOrder tag rest .noSuch) ∧
    (∀ o, s.orderByRef? (u16 pl 0) = some o → u8 pl 2 ≤ 1 →
      let ready := o.state = .proposed ∧ o.figuresPending = false ∧ o.commitInHand = false ∧
        s.store ≠ some .reload
      let formed := s.formRegion o.automatic o.target
        (o.steps.map (fun x => { x with state := .waiting }))
      (¬ ready → exec (.commitOrder p) s = s.refuses p .commitOrder tag rest .wrongState) ∧
      (ready → formed = none →
        exec (.commitOrder p) s = s.refuses p .commitOrder tag rest .cannotIsolate) ∧
      (∀ region steps, formed = some (region, steps) → ready → s.engineSound →
        ∃ t, exec (.commitOrder p) s = .next t ∧ s.held t p .commitOrder tag rest ∧
          t.toPicture = { s.toPicture with
            orders := s.orders.map (fun x => if x.slot = o.slot then
              { x with commitInHand := true, expiry := none } else x)
            sweep := s.sweepWith ⟨p, .commit (decide (u8 pl 2 = 1)) region steps, o.slot, o.ref,
              steps.map (fun x => x.valve)⟩ } ∧
          t.noticesS = s.noticesS ∧ t.noticesD = s.noticesD))

/-- CANCEL_ORDER (R113): its checks in their order, and what becomes of the order. An order none of whose valves has
moved ends CANCELLED with its steps as they stood and its valves released, each CLOSE in hand withdrawn, with HOLD to
the crew of an instruction (R79); one with steps that need reopening drops the others in the same way, takes the
cancelling mark, and has the highest rank present issued for reopening (R110). ORDER_STATE tells of each state (R114). -/
def Obligations.CancelActsByTheOrdersState : Prop :=
  ∀ (s : State) (p : Port) (tag : Byte) (pl : List Byte) (rest : List Request),
    s.offers p .cancelOrder tag pl rest → s.passes p .cancelOrder pl →
    (s.orderByRef? (u16 pl 0) = none →
      exec (.cancelOrder p) s = s.refuses p .cancelOrder tag rest .noSuch) ∧
    (∀ o, s.orderByRef? (u16 pl 0) = some o → s.ordersSound →
      let barred := p = .d ∧ o.origin = .s
      let moved : Step → Bool := fun x => x.state == .confirmed || x.state == .failed ||
        (x.state == .issued && (s.valve? x.valve).any (fun v => v.kind == .remote && v.window.isSome))
      let unsafeRegion := ∃ i ∈ o.region, ∃ g, s.segment? i = some g ∧ 0 < g.unsafeA
      (barred → exec (.cancelOrder p) s = s.refuses p .cancelOrder tag rest .notPermitted) ∧
      (¬ barred → o.state ≠ .proposed → o.state ≠ .executing →
        exec (.cancelOrder p) s = s.refuses p .cancelOrder tag rest .wrongState) ∧
      (¬ barred → o.state = .executing → o.steps.any moved = true → unsafeRegion →
        exec (.cancelOrder p) s = s.refuses p .cancelOrder tag rest .callOpen) ∧
      (¬ barred → o.state = .proposed ∨ (o.state = .executing ∧ o.steps.any moved = false) →
        ∃ t, exec (.cancelOrder p) s = .next t ∧ s.answered t p .cancelOrder tag rest .done [] ∧
          t.orders = s.orders.map (fun x => if x.slot = o.slot then
            { x with
              state := .cancelled, expiry := none
              decayDeadline := if o.state = .executing then none else x.decayDeadline
              decayList := if o.state = .executing then [] else x.decayList } else x) ∧
          t.terminalSlots = s.terminalSlots.filter (· != o.slot) ++ [o.slot] ∧
          (∃ rs : List Raise, s.raised t rs ∧
            orderNews rs = [⟨.orderState, o.ref, some (.orderState .cancelled none)⟩] ∧
            (o.state = .executing → s.valvesSound → ∀ x ∈ o.steps, ∀ v, s.valve? x.valve = some v →
              v.holder = some o.ref → s.stepDropped t rs x v)) ∧
          (∀ g ∈ t.segments, o.ref ∉ g.holders) ∧
          (∀ x ∈ o.steps, ∀ v, t.valve? x.valve = some v → v.holder ≠ some o.ref)) ∧
      (¬ barred → o.state = .executing → o.steps.any moved = true → ¬ unsafeRegion →
        ∃ t, exec (.cancelOrder p) s = .next t ∧ s.answered t p .cancelOrder tag rest .done [] ∧
          ∃ x, t.order? o.slot = some x ∧ x.ref = o.ref ∧ x.cancelling = true ∧
          (x.state = .restoring ∨ x.state = .cancelled) ∧
          (∃ rs : List Raise, s.raised t rs ∧
            orderNews rs = ⟨.orderState, o.ref, some (.orderState .restoring none)⟩ ::
              (if x.state = .cancelled then [⟨.orderState, o.ref, some (.orderState .cancelled none)⟩] else []) ∧
            (s.valvesSound →
              (∀ y ∈ o.steps, moved y = false → ∀ v, s.valve? y.valve = some v → v.holder = some o.ref →
                s.stepDropped t rs y v) ∧
              ∀ y ∈ x.steps, y.state = .issued → x.isReopening y = true → ∀ v, s.valve? y.valve = some v →
                v.holder = some o.ref → s.stepIssued t rs .open_ o.ref v)) ∧
          x.steps.map (fun y => (y.valve, y.rank)) =
            (o.steps.filter moved).map (fun y => (y.valve, y.rank)) ∧
          (∀ y ∈ x.steps, (∀ z ∈ x.steps, z.rank ≤ y.rank) →
            y.state = .issued ∨ y.state = .blocked ∨ y.state = .reopened)))

/-- BEGIN_RESTORE (R109, R110): its checks in their order; one that passes is answered DONE, and the order is RESTORING, or
already DONE if every valve stood open, with the highest rank present issued: each valve of a step ISSUED for reopening has
its OPEN in hand, or its crew an instruction (R64, R72). The CLOSE in hand of every ISSUED step is withdrawn first, with
HOLD to the crew of an instruction (R79). ORDER_STATE tells of each state (R114). -/
def Obligations.RestoreBeginsAtTheHighestRank : Prop :=
  ∀ (s : State) (p : Port) (tag : Byte) (pl : List Byte) (rest : List Request),
    s.offers p .beginRestore tag pl rest → s.passes p .beginRestore pl →
    (s.orderByRef? (u16 pl 0) = none →
      exec (.beginRestore p) s = s.refuses p .beginRestore tag rest .noSuch) ∧
    (∀ o, s.orderByRef? (u16 pl 0) = some o → s.ordersSound →
      let fit := o.state = .isolated ∨ o.state = .letby ∨ o.state = .breached
      let unsafeRegion := ∃ i ∈ o.region, ∃ g, s.segment? i = some g ∧ 0 < g.unsafeA
      (¬ fit → exec (.beginRestore p) s = s.refuses p .beginRestore tag rest .wrongState) ∧
      (fit → unsafeRegion → exec (.beginRestore p) s = s.refuses p .beginRestore tag rest .callOpen) ∧
      (fit → ¬ unsafeRegion →
        ∃ t, exec (.beginRestore p) s = .next t ∧ s.answered t p .beginRestore tag rest .done [] ∧
          ∃ x, t.order? o.slot = some x ∧ x.ref = o.ref ∧ x.reopening ≠ none ∧
          (x.state = .restoring ∨ x.state = if o.cancelling then .cancelled else .done) ∧
          (∃ rs : List Raise, s.raised t rs ∧
            orderNews rs = ⟨.orderState, o.ref, some (.orderState .restoring none)⟩ ::
              (if x.terminal then [⟨.orderState, o.ref, some (.orderState x.state none)⟩] else []) ∧
            (s.valvesSound →
              (∀ y ∈ o.steps, y.state = .issued → ∀ v, s.valve? y.valve = some v → v.holder = some o.ref →
                v.hasCloseInHand = true → holdTold rs v ∧
                  ∀ z ∈ x.steps, z.valve = y.valve → ¬ (z.state = .issued ∧ x.isReopening z = true) →
                    t.valve? v.id = some (if x.terminal then (v.withdrawn s.now).released
                      else v.withdrawn s.now)) ∧
              ∀ y ∈ x.steps, y.state = .issued → x.isReopening y = true → ∀ v, s.valve? y.valve = some v →
                v.holder = some o.ref → s.stepIssued t rs .open_ o.ref v)) ∧
          x.steps.map (fun y => (y.valve, y.rank)) = o.steps.map (fun y => (y.valve, y.rank)) ∧
          (∀ y ∈ x.steps, (∀ z ∈ x.steps, z.rank ≤ y.rank) →
            y.state = .issued ∨ y.state = .blocked ∨ y.state = .reopened)))

/-- PROPOSAL_EXPIRY (R95) and DECAY_DEADLINE_EXPIRY (R105): at the moment the order becomes EXPIRED, or LETBY if a
channel of its decay list has an unmet mark and a reading fresh in the window, or else ISOLATED with result UNCONFIRMED;
with ORDER_STATE, and before it LETBY with the first such channel (R114, log entry 21). Before the moment nothing
happens (log entry 2); an expiry may come after its moment has passed (log entry 3). -/
def Obligations.OrderDeadlinesActAtTheirMoment : Prop :=
  ∀ (s : State) (o : Order) (d : Nat), o.slot < 16 → s.order? o.slot = some o →
    (o.state = .proposed → o.expiry = some d →
      (s.now < d → exec (.proposalExpiry o.slot) s = .next s) ∧
      (d ≤ s.now → ∃ t, exec (.proposalExpiry o.slot) s = .next t ∧
        t.orders = s.orders.map (fun x => if x.slot = o.slot then
          { x with state := .expired, expiry := none } else x) ∧
        t.terminalSlots = s.terminalSlots.filter (· != o.slot) ++ [o.slot] ∧
        ((∀ g ∈ s.segments, o.ref ∉ g.holders) →
          t.noticesS = s.noticesS.receive s.now ⟨.orderState, o.ref, some (.orderState .expired none)⟩ ∧
          t.noticesD = s.noticesD.receive s.now
            ⟨.orderState, o.ref, some (.orderState .expired none)⟩))) ∧
    (o.state = .executing → o.decayDeadline = some d →
      let unmet : DecayEntry → Prop := fun e => e.met = false ∧ ∃ c, s.channel? e.unit e.index = some c ∧
        c.fresh = true ∧ ∃ u, c.updated = some u ∧ d ≤ u + s.timing.decayWindow
      (s.now < d → exec (.decayDeadlineExpiry o.slot) s = .next s) ∧
      (∀ before e later, o.decayList = before ++ e :: later → unmet e → (∀ x ∈ before, ¬ unmet x) → d ≤ s.now →
        ∃ t, exec (.decayDeadlineExpiry o.slot) s = .next t ∧
        s.raised t [⟨.letby, o.ref, some (.channel (4 * e.unit + e.index))⟩,
          ⟨.orderState, o.ref, some (.orderState .letby none)⟩] ∧
        t.orders = s.orders.map (fun x => if x.slot = o.slot then
          { x with state := .letby, decayDeadline := none, decayList := [] } else x)) ∧
      (d ≤ s.now → (∀ e ∈ o.decayList, ¬ unmet e) → ∃ t, exec (.decayDeadlineExpiry o.slot) s = .next t ∧
        s.raised t [⟨.orderState, o.ref, some (.orderState .isolated (some .unconfirmed))⟩] ∧
        t.orders = s.orders.map (fun x => if x.slot = o.slot then
          { x with
            state := .isolated, verification := some .unconfirmed
            decayDeadline := none, decayList := [] } else x)))

/-! ### Valves and sources -/

/-- VALVE_OPERATE (R76): its checks in their order, and the command taken by the table of R64, for a valve in order (R63). -/
def Obligations.OperateFollowsTheCommandTable : Prop :=
  ∀ (s : State) (p : Port) (tag : Byte) (pl : List Byte) (rest : List Request),
    s.offers p .valveOperate tag pl rest → s.passes p .valveOperate pl →
    let id := u16 pl 0
    let refused := s.refuses p .valveOperate tag rest
    ((u8 pl 2 ≠ 1 ∧ u8 pl 2 ≠ 2) ∨ 511 < id → exec (.valveOperate p) s = refused .badValue) ∧
    (∀ a : Action, u8 pl 2 = a.code → id ≤ 511 →
      (s.valve? id = none → exec (.valveOperate p) s = refused .noSuch) ∧
      (∀ v, s.valve? id = some v → s.valvesSound →
        let unfit := v.kind = .manual ∨ v.position = .fault ∨ v.operable = false
        let barred := a = .open_ ∧ ∃ g ∈ s.segments, v.touches (.segment g.id) = true ∧ 0 < g.unsafeA
        let room := s.cmdQueue.length < 32
        let joined : Valve → Prop := fun x =>
          ∃ t, exec (.valveOperate p) s = .next t ∧ s.answered t p .valveOperate tag rest .done [] ∧
            t.valve? id = some { x with
              position := a.travel, lastChange := s.now, window := none
              pendingCmd := if room then none else some a } ∧
            t.cmdQueue = (if room then s.cmdQueue ++ [⟨id, a⟩] else s.cmdQueue) ∧
            (∀ i, i ≠ id → t.valve? i = s.valve? i) ∧
            (v.position = .closed → t.sweepIsAsked)
        (unfit → exec (.valveOperate p) s = refused .wrongState) ∧
        (¬ unfit → v.holder ≠ none → exec (.valveOperate p) s = refused .valveHeld) ∧
        ((s.segments.map (fun g => g.id)).Pairwise (· < ·) → ¬ unfit → v.holder = none →
          (barred → exec (.valveOperate p) s = refused .callOpen) ∧
          (¬ barred →
            (v.window = none → v.prior = none →
              (v.position = a.target → ∃ t, exec (.valveOperate p) s = .next t ∧
                s.answered t p .valveOperate tag rest .done [] ∧ t.toPicture = s.toPicture) ∧
              (v.position ≠ a.target → joined { v with prior := some v.position })) ∧
            (v.window ≠ none →
              (v.position = a.travel → ∃ t, exec (.valveOperate p) s = .next t ∧
                s.answered t p .valveOperate tag rest .done [] ∧ t.toPicture = s.toPicture) ∧
              (v.position ≠ a.travel → joined { v with prior := some .unknown })) ∧
            (∀ q, v.window = none → v.prior = some q →
              (q = a.target → ∃ t, exec (.valveOperate p) s = .next t ∧
                s.answered t p .valveOperate tag rest .done [] ∧
                t.valve? id = some { v with
                  prior := none, pendingCmd := none, position := q, lastChange := s.now } ∧
                t.queuedAction id = none) ∧
              (q ≠ a.target → ∃ t, exec (.valveOperate p) s = .next t ∧
                s.answered t p .valveOperate tag rest .done [] ∧
                t.valve? id = some { v with
                  position := a.travel
                  lastChange := if v.position = a.travel then v.lastChange else s.now
                  pendingCmd := v.pendingCmd.map (fun _ => a) } ∧
                t.cmdQueue = s.cmdQueue.map (fun e =>
                  if e.valve = id then { e with action := a } else e)))))))

/-- VALVE_ASSERT (R74), CREW_VALVE_REPORT (R73) and VALVE_MARK (R75): their checks; each that passes is answered DONE and
writes its valve. A holder's order takes the position that is passed by the tables of R101, R107, R109 and R111, an
assertion together with the withdrawal of a command that awaits pull or an instruction (R78; of a pulled command there is
none, R67, log entry 17); the valve's record is stated for each of the order's answers, and the order's notices, BREACH
among them (R107, R109, R114). A change into or out of CLOSED asks for an actual sweep (R5, R50). -/
def Obligations.ValveRequestsWriteTheirValve : Prop :=
  (∀ (s : State) (p : Port) (k : RequestKind) (tag : Byte) (pl : List Byte) (rest : List Request),
    s.offers p k tag pl rest → s.passes p k pl →
    let refused := s.refuses p k tag rest
    (k = .valveAssert → (u8 pl 2 ∉ [1, 2, 5] ∨ 511 < u16 pl 0 → exec (.valveAssert p) s = refused .badValue) ∧
      (u8 pl 2 ∈ [1, 2, 5] → u16 pl 0 ≤ 511 → s.valve? (u16 pl 0) = none →
        exec (.valveAssert p) s = refused .noSuch)) ∧
    (k = .crewValveReport →
      (u8 pl 2 ∉ [1, 2] ∨ 511 < u16 pl 0 → exec (.crewValveReport p) s = refused .badValue) ∧
      (u8 pl 2 ∈ [1, 2] → u16 pl 0 ≤ 511 → s.valve? (u16 pl 0) = none →
        exec (.crewValveReport p) s = refused .noSuch)) ∧
    (k = .valveMark → (u8 pl 2 ∉ [1, 2] ∨ 511 < u16 pl 0 → exec (.valveMark p) s = refused .badValue) ∧
      (u8 pl 2 ∈ [1, 2] → u16 pl 0 ≤ 511 → s.valve? (u16 pl 0) = none →
        exec (.valveMark p) s = refused .noSuch))) ∧
  ∀ (s : State) (p : Port) (k : RequestKind) (tag : Byte) (pl : List Byte) (rest : List Request)
    (v : Valve), s.offers p k tag pl rest → s.passes p k pl → s.valve? (u16 pl 0) = some v →
    u16 pl 0 ≤ 511 →
    (k = .valveAssert → ∀ q : Position, q = .open_ ∨ q = .closed ∨ q = .unknown → u8 pl 2 = q.code →
      let withdrawn := v.prior.isSome || decide (v.outstanding.map Action.target = some q)
      ∃ t, exec (.valveAssert p) s = .next t ∧ s.answered t p k tag rest .done [] ∧
        (s.valvesSound → s.ordersSound → ∀ o ∈ s.orders, ∀ x ∈ o.steps, s.heldBy v o x →
          s.stepAnswered t o x (o.answer x q withdrawn) ∧ s.answerTold t o x (o.answer x q withdrawn)) ∧
        (s.leavesValve v q withdrawn → t.queuedAction v.id = none) ∧
        (v.position ≠ q → v.position = .closed ∨ q = .closed → t.sweepIsAsked) ∧
        s.valveBecomes t v { v with
          window := none, prior := none, pendingCmd := none
          outstanding := if v.outstanding.map Action.target = some q then none else v.outstanding
          position := q
          lastChange := if v.position = q then v.lastChange else s.now } q withdrawn) ∧
    (k = .crewValveReport → ∀ q : Position, q = .open_ ∨ q = .closed → u8 pl 2 = q.code →
      (v.kind = .remote → exec (.crewValveReport p) s = s.refuses p k tag rest .wrongState) ∧
      (v.kind = .manual → ∃ t, exec (.crewValveReport p) s = .next t ∧
        s.answered t p k tag rest .done [] ∧
        (s.valvesSound → s.ordersSound → ∀ o ∈ s.orders, ∀ x ∈ o.steps, s.heldBy v o x →
          s.stepAnswered t o x (o.answer x q false) ∧ s.answerTold t o x (o.answer x q false)) ∧
        (v.position ≠ q → v.position = .closed ∨ q = .closed → t.sweepIsAsked) ∧
        (s.leavesValve v q false → t.noticesS = (if v.position = q then s.noticesS
          else s.noticesS.receive s.now ⟨.valveMoved, v.id, some (.position q)⟩)) ∧
        s.valveBecomes t v { v with
          outstanding := if v.outstanding.map Action.target = some q then none else v.outstanding
          position := q
          lastChange := if v.position = q then v.lastChange else s.now } q false)) ∧
    (k = .valveMark → u8 pl 2 = 1 ∨ u8 pl 2 = 2 →
      ∃ t, exec (.valveMark p) s = .next t ∧ s.answered t p k tag rest .done [] ∧
        t.toPicture = { s.toPicture with valves := s.valves.map (fun x =>
          if x.id = v.id then { x with operable := decide (u8 pl 2 = 1) } else x) } ∧
        t.noticesS = s.noticesS ∧ t.noticesD = s.noticesD)

/-- SET_SOURCE (R83): its checks in their order, and the source's new state; a change raises SOURCE_STATE on both ports and
asks for an actual sweep, and with no change nothing of the picture changes. -/
def Obligations.SetSourceWritesItsSource : Prop :=
  ∀ (s : State) (p : Port) (tag : Byte) (pl : List Byte) (rest : List Request),
    s.offers p .setSource tag pl rest → s.passes p .setSource pl →
    let refused := s.refuses p .setSource tag rest
    ((u8 pl 1 ≠ 1 ∧ u8 pl 1 ≠ 2) ∨ 15 < u8 pl 0 → exec (.setSource p) s = refused .badValue) ∧
    (∀ st : SourceState, u8 pl 1 = st.code → u8 pl 0 ≤ 15 →
      (s.source? (u8 pl 0) = none → exec (.setSource p) s = refused .noSuch) ∧
      (∀ q, s.source? (u8 pl 0) = some q →
        let tripped := st = .live ∧ ∃ u, q.unit = some u ∧ ∃ x, s.unit? u = some x ∧ x.tripped = true
        let cause : Option OutCause := if st = .out then some .operator else none
        (tripped → exec (.setSource p) s = refused .wrongState) ∧
        (¬ tripped → ∃ t, exec (.setSource p) s = .next t ∧ s.answered t p .setSource tag rest .done [] ∧
          (q.state = st ∧ q.cause = cause → t.toPicture = s.toPicture ∧ t.noticesS = s.noticesS ∧
            t.noticesD = s.noticesD) ∧
          (¬ (q.state = st ∧ q.cause = cause) → t.sweepIsAsked ∧
            t.sources = s.sources.map (fun x =>
              if x.id = q.id then { x with state := st, cause := cause } else x) ∧
            t.noticesS = s.noticesS.receive s.now ⟨.sourceState, q.id, some (.sourceState st cause)⟩ ∧
            t.noticesD = s.noticesD.receive s.now
              ⟨.sourceState, q.id, some (.sourceState st cause)⟩))))

/-- POSITION_REPORT by the table of R69, for a REMOTE valve that is in order (R63). A holder's order takes the position in
which the report leaves the valve by the tables of R101, R107, R109 and R111 (R78), and after a fault the fault (R70); the
valve's record is stated for each of the order's answers, and the order's notices, BREACH among them (R107, R109, R114). A
change into or out of CLOSED asks for an actual sweep (R5, R50). -/
def Obligations.PositionReportFollowsItsTable : Prop :=
  ∀ (s : State) (tag : Byte) (pl : List Byte) (rest : List Request),
    s.offersReport .positionReport tag pl rest → s.passes .f .positionReport pl →
    ∃ t, exec (.positionReport .f) s = .next t ∧
      t.port .f = { s.port .f with inbound := rest } ∧
      ((∀ v, s.valve? (u16 pl 0) = some v → v.kind = .manual) ∨
          (u8 pl 2 ≠ 1 ∧ u8 pl 2 ≠ 2 ∧ u8 pl 2 ≠ 7) → t.toPicture = s.toPicture) ∧
      (∀ v, s.valve? (u16 pl 0) = some v → v.kind = .remote → s.valvesSound → s.ordersSound →
        u8 pl 2 = 1 ∨ u8 pl 2 = 2 ∨ u8 pl 2 = 7 →
        let left := v.positionAfter s.now (u8 pl 2)
        ∀ o ∈ s.orders, ∀ x ∈ o.steps, s.heldBy v o x →
          (v.window = none ∨ left ≠ .fault → s.stepAnswered t o x (o.answer x left false) ∧
            s.answerTold t o x (o.answer x left false)) ∧
          (v.window ≠ none → left = .fault → o.answer x left false = .leaves →
            s.stepAnswered t o x (o.faultAnswer x) ∧ s.answerTold t o x (o.faultAnswer x))) ∧
      (∀ v, s.valve? (u16 pl 0) = some v → v.kind = .remote → s.valvesSound →
        let left := v.positionAfter s.now (u8 pl 2)
        let becomes : Valve → Prop := fun y => s.valveBecomes t v y left false
        (u8 pl 2 = 1 ∨ u8 pl 2 = 2 ∨ u8 pl 2 = 7 → v.position ≠ left → v.position = .closed ∨ left = .closed →
          t.sweepIsAsked) ∧
        (∀ a : Action, u8 pl 2 = a.target.code →
          (∀ e d, v.window = some (e, d) → v.position = a.travel →
            becomes (if s.now < e then { v with
                position := .fault, window := none, operable := false, lastChange := s.now }
              else { v with position := a.target, window := none, lastChange := s.now })) ∧
          (v.window ≠ none → v.position ≠ a.travel → becomes v) ∧
          (v.prior ≠ none → v.position = a.travel →
            (s.leavesValve v left false → t.queuedAction v.id = none) ∧
            becomes { v with
              prior := none, pendingCmd := none, position := a.target, lastChange := s.now }) ∧
          (v.prior ≠ none → v.position ≠ a.travel → becomes { v with prior := some a.target }) ∧
          (v.window = none → v.prior = none →
            (v.position = .fault ∨ v.position = a.target → becomes v) ∧
            (v.position ≠ .fault → v.position ≠ a.target →
              becomes { v with position := a.target, lastChange := s.now } ∧
              (s.leavesValve v left false → t.noticesS = s.noticesS.receive s.now
                ⟨.valveMoved, v.id, some (.position a.target)⟩)))) ∧
        (u8 pl 2 = 7 →
          (v.window ≠ none ∨ v.prior ≠ none ∨ v.position = .fault ∨ v.position = .unknown → becomes v) ∧
          (v.window = none → v.prior = none → v.position = .open_ ∨ v.position = .closed →
            becomes { v with position := .unknown, lastChange := s.now } ∧
            (s.leavesValve v left false → t.noticesS = s.noticesS.receive s.now
              ⟨.valveMoved, v.id, some (.position .unknown)⟩))) ∧
        (u8 pl 2 = 1 ∨ u8 pl 2 = 2 ∨ u8 pl 2 = 7 → v.position = left →
          ((v.prior = none ∨ u8 pl 2 = 7) ∧ ∀ o ∈ s.orders, ∀ x ∈ o.steps, s.heldBy v o x →
            o.answer x left false = .leaves) → t.toPicture = s.toPicture))

/-- PULL_COMMAND (R67, R66): the oldest entry leaves, its valve is in travel with its window, and freed space takes pending
commands in ascending valve id; with no entry the reply is the empty mark (log entry 16). TRAVEL_DEADLINE_EXPIRY (R68,
R70): at the deadline the valve is in FAULT with cause STUCK, and an ISSUED step of a holder's order FAILED (R101, R111);
before it nothing happens (log entry 2), and an expiry may come after its deadline has passed (log entry 3). -/
def Obligations.PullArmsTheWindowAndItsDeadlineFaults : Prop :=
  (∀ (s : State) (tag : Byte) (pl : List Byte) (rest : List Request),
    s.offers .f .pullCommand tag pl rest → s.passes .f .pullCommand pl →
    (s.cmdQueue = [] → ∃ t, exec (.pullCommand .f) s = .next t ∧
      s.answered t .f .pullCommand tag rest .done [1#8] ∧ t.toPicture = s.toPicture) ∧
    (∀ e es, s.cmdQueue = e :: es → ∀ v, s.valve? e.valve = some v → s.valvesSound →
      ∃ t, exec (.pullCommand .f) s = .next t ∧
        s.answered t .f .pullCommand tag rest .done (bytesOf 2 e.valve ++ bytesOf 1 e.action.code) ∧
        t.valve? e.valve = some { v with
          prior := none, window := v.travel.map (fun w => (s.now + w.1, s.now + w.2)) } ∧
        t.cmdQueue = es ++ (s.valves.filterMap (fun x =>
          x.pendingCmd.map (fun a => (⟨x.id, a⟩ : QueueEntry)))).take (32 - es.length))) ∧
  (∀ (s : State) (v : Valve) (e d : Nat), s.valve? v.id = some v → v.id ≤ 511 →
    v.window = some (e, d) → v.position ≠ .fault →
    (s.now < d → exec (.travelDeadlineExpiry v.id) s = .next s) ∧
    (d ≤ s.now → ∃ t, exec (.travelDeadlineExpiry v.id) s = .next t ∧
      t.valve? v.id = some { v with
        position := .fault, window := none, operable := false, lastChange := s.now } ∧
      t.noticesS = s.noticesS.receive s.now ⟨.valveFault, v.id, some (.faultCause .stuck)⟩ ∧
      t.noticesD = s.noticesD.receive s.now ⟨.valveFault, v.id, some (.faultCause .stuck)⟩ ∧
      (s.ordersSound → ∀ o ∈ s.orders, ∀ x ∈ o.steps, s.heldBy v o x →
        s.stepAnswered t o x (o.faultAnswer x))))

/-! ### Calls -/

/-- LOG_CALL (R119 to R121, R123, R117): its checks in their order; a report that qualifies merges into the call in the
lowest slot, and where that raises its class the raise has the effects of R124: the count, the deadline, CALL_RAISED,
and an expiry at once with CALL_OVERDUE; any other makes a new call, with the segment's count and then CALL_NEW, which
follows the valve block's notices where the count has risen from 0 (R134, R81), and an order's step whose OPEN is then
withdrawn is BLOCKED (R111). The new call's slot is the lowest never used, else that of the call closed earliest, and no
open call is displaced (R117). The width of the slot in the reply is log entry 12's. -/
def Obligations.LogCallMergesOrMakesACall : Prop :=
  (∀ pic : Picture, slotChosen (pic.calls.map (fun c => c.slot)) 128 pic.closedCalls pic.callSlot ∧
    (pic.callsSound → pic.callSlot = none → ∀ c ∈ pic.calls, c.state ≠ .closed)) ∧
  (∀ (s : State) (k : Nat), s.countsExact → s.callSlot = some k → ∀ c ∈ s.calls, c.slot = k → c.state = .closed) ∧
  ∀ (s : State) (p : Port) (tag : Byte) (pl : List Byte) (rest : List Request),
    s.offers p .logCall tag pl rest → s.passes p .logCall pl →
    let refused := s.refuses p .logCall tag rest
    let seg := u8 pl 0
    (u8 pl 1 = 0 ∨ 3 < u8 pl 1 → exec (.logCall p) s = refused .badValue) ∧
    (∀ cls : CallClass, u8 pl 1 = cls.code →
      (s.segment? seg = none → exec (.logCall p) s = refused .noSuch) ∧
      (∀ g, s.segment? seg = some g →
        let candidate : CallClass → CallClass := fun r =>
          if g.summary = .low ∨ g.falling = true then (match r with | .a => .a | .b => .a | .c => .b) else r
        let qualifies : Call → Bool := fun c => c.segment == seg &&
          (c.state == .new || c.state == .assigned || c.state == .onSite) &&
          decide (s.now ≤ c.last + s.timing.mergeWindow)
        (s.store = some .reload → exec (.logCall p) s = refused .wrongState) ∧
        (∀ c, s.calls.find? qualifies = some c → s.store ≠ some .reload → s.callsSound →
          let reported := if cls.rank < c.reported.rank then cls else c.reported
          ∃ t, exec (.logCall p) s = .next t ∧
            s.answered t p .logCall tag rest .doneMerged (bytesOf 2 c.ref) ∧
            ∃ x, t.call? c.slot = some x ∧ x.ref = c.ref ∧ x.merged = min (c.merged + 1) 255 ∧
            x.last = s.now ∧ x.reported = reported ∧ x.state = c.state ∧ x.first = c.first ∧
            x.effective = (if (candidate reported).rank < c.effective.rank then candidate reported
              else c.effective) ∧
            x = s.callEvaluated (g.summary == .low || g.falling)
              { c with merged := min (c.merged + 1) 255, last := s.now, reported := reported } ∧
            (∀ i, i ≠ c.slot → t.call? i = s.call? i) ∧
            (t.segment? seg).map (fun y => y.unsafeA) =
              some (if x.effective = .a ∧ c.effective ≠ .a then g.unsafeA + 1 else g.unsafeA) ∧
            ∃ rs : List Raise, s.raised t rs ∧
              rs.filter (fun r => r.kind == .callNew || r.kind == .callRaised || r.kind == .callOverdue) =
                if x.effective = c.effective then [] else
                  ⟨.callRaised, c.ref, some (.callClass x.effective)⟩ ::
                    (if s.raiseIsOverdue c x.effective then [⟨.callOverdue, c.ref, some (.level x.level)⟩]
                     else [])) ∧
        (s.store ≠ some .reload → s.calls.find? qualifies = none →
          (s.callSlot = none → exec (.logCall p) s = refused .tableFull) ∧
          (∀ k, s.callSlot = some k →
            ∃ t, exec (.logCall p) s = .next t ∧
              s.answered t p .logCall tag rest .done (bytesOf 1 k ++ bytesOf 2 s.nextCallRef ++
                bytesOf 1 (candidate cls).code ++
                (if g.summary = .low ∨ g.falling = true then [1#8] else [0#8])) ∧
              t.calls = putBy Call.slot
                { slot := k, ref := s.nextCallRef, segment := seg, reported := cls
                  effective := candidate cls
                  corroborated := decide (g.summary = .low ∨ g.falling = true)
                  first := s.now, last := s.now, merged := 1, state := .new, crew := none, level := 0
                  deadline := some (s.now + s.timing.attend (candidate cls)), links := [] } s.calls ∧
              t.nextCallRef = (if s.nextCallRef = 65535 then 1 else s.nextCallRef + 1) ∧
              t.closedCalls = s.closedCalls.filter (· != k) ∧
              (t.segment? seg).map (fun x => x.unsafeA) =
                some (if candidate cls = .a then g.unsafeA + 1 else g.unsafeA) ∧
              ∃ rs : List Raise,
                s.raised t (rs ++ [⟨.callNew, s.nextCallRef, some (.callClass (candidate cls))⟩]) ∧
                (∀ r ∈ rs, r.kind ≠ .callNew) ∧ (candidate cls ≠ .a ∨ 0 < g.unsafeA → rs = [])))) ∧
      (s.ordersSound → s.interlockHolds → ∃ t, exec (.logCall p) s = .next t ∧ s.blocksSteps t))

/-- ASSIGN_CALL (R128, R130), CALL_PROGRESS (R129) and CALL_DEADLINE_EXPIRY (R131): their checks, and what becomes of
the call, its deadline, the order of closing and the segment's count. A count that falls to 0 clears the BLOCKED steps
of the valves that touch the segment (R82, R111): each whose other end is clear too is asked to OPEN afresh. An expiry
before its deadline leaves the state (log entry 2), and one may come after its deadline has passed (log entry 3). -/
def Obligations.CallsProgressAndExpire : Prop :=
  (∀ (s : State) (p : Port) (tag : Byte) (pl : List Byte) (rest : List Request),
    let ref := u16 pl 0
    (s.offers p .assignCall tag pl rest → s.passes p .assignCall pl →
      let refused := s.refuses p .assignCall tag rest
      let good := 1 ≤ ref ∧ 1 ≤ u16 pl 2 ∧ u16 pl 2 ≤ 4095
      (¬ good → exec (.assignCall p) s = refused .badValue) ∧
      (good → s.callByRef? ref = none → exec (.assignCall p) s = refused .noSuch)) ∧
    (s.offers p .callProgress tag pl rest → s.passes p .callProgress pl →
      let refused := s.refuses p .callProgress tag rest
      let good := 1 ≤ ref ∧ 3 ≤ u8 pl 2 ∧ u8 pl 2 ≤ 5
      (¬ good → exec (.callProgress p) s = refused .badValue) ∧
      (good → s.callByRef? ref = none → exec (.callProgress p) s = refused .noSuch))) ∧
  (∀ (s : State) (p : Port) (tag : Byte) (pl : List Byte) (rest : List Request) (c : Call),
    s.offers p .assignCall tag pl rest → s.passes p .assignCall pl →
    s.callByRef? (u16 pl 0) = some c → u16 pl 0 ≠ 0 → 1 ≤ u16 pl 2 → u16 pl 2 ≤ 4095 → s.callsSound →
    let moment := c.first + s.timing.onSite c.effective
    (c.state ≠ .new → exec (.assignCall p) s = s.refuses p .assignCall tag rest .wrongState) ∧
    (c.state = .new → ∃ t, exec (.assignCall p) s = .next t ∧
      s.answered t p .assignCall tag rest .done [] ∧
      t.calls = s.calls.map (fun x => if x.slot = c.slot then
        { x with
          state := .assigned, crew := some (u16 pl 2)
          deadline := some (if moment ≤ s.now then s.now + s.timing.escalation else moment)
          level := if moment ≤ s.now then min (c.level + 1) 3 else x.level } else x) ∧
      s.raised t (if moment ≤ s.now then [⟨.callOverdue, c.ref, some (.level (min (c.level + 1) 3))⟩] else []))) ∧
  (∀ (s : State) (p : Port) (tag : Byte) (pl : List Byte) (rest : List Request) (c : Call)
    (g : Segment) (target : CallState),
    s.offers p .callProgress tag pl rest → s.passes p .callProgress pl →
    s.callByRef? (u16 pl 0) = some c → u16 pl 0 ≠ 0 → s.segment? c.segment = some g →
    u8 pl 2 = target.code → target = .onSite ∨ target = .madeSafe ∨ target = .closed →
    let allowed := (c.state, target) ∈ [(CallState.assigned, CallState.onSite), (.assigned, .madeSafe),
      (.onSite, .madeSafe), (.new, .closed), (.madeSafe, .closed)]
    (¬ allowed → exec (.callProgress p) s = s.refuses p .callProgress tag rest .wrongState) ∧
    (allowed → ∃ t, exec (.callProgress p) s = .next t ∧
      s.answered t p .callProgress tag rest .done [] ∧
      t.calls = s.calls.map (fun x => if x.slot = c.slot then
        { x with state := target, deadline := none } else x) ∧
      t.closedCalls = (if target = .closed then s.closedCalls.filter (· != c.slot) ++ [c.slot]
        else s.closedCalls) ∧
      let leaves := c.effective = .a ∧ (target = .madeSafe ∨ c.state = .new)
      (t.segment? c.segment).map (fun x => x.unsafeA) = some (if leaves then g.unsafeA - 1 else g.unsafeA) ∧
      (¬ (leaves ∧ g.unsafeA = 1) → t.orders = s.orders ∧ t.valves = s.valves ∧ s.raised t []) ∧
      (leaves → g.unsafeA = 1 → s.ordersSound → s.valvesSound → ∀ v ∈ s.valves,
        v.endA = .segment c.segment ∨ v.endB = .segment c.segment → ∀ o ∈ s.orders, ∀ x ∈ o.steps,
        s.heldBy v o x → o.isReopening x = true → x.state = .blocked →
        let stands := v.window = none ∧ v.prior.getD v.position = .open_
        let st : StepState := if t.interlocked v then .blocked else if stands then .reopened else .issued
        (t.order? o.slot).any (fun y => y.steps.any (fun z => z.valve == v.id && z.state == st)) = true ∧
        (st = .issued → (t.valve? v.id).any (fun y =>
          y.position == .opening || y.outstanding == some .open_) = true)))) ∧
  (∀ (s : State) (c : Call) (d : Nat), s.call? c.slot = some c → c.slot < 128 →
    c.state = .new ∨ c.state = .assigned → c.deadline = some d →
    (s.now < d → exec (.callDeadlineExpiry c.slot) s = .next s) ∧
    (d ≤ s.now → ∃ t, exec (.callDeadlineExpiry c.slot) s = .next t ∧
      t.calls = s.calls.map (fun x => if x.slot = c.slot then
        { x with level := min (c.level + 1) 3, deadline := some (s.now + s.timing.escalation) } else x) ∧
      s.raised t [⟨.callOverdue, c.ref, some (.level (min (c.level + 1) 3))⟩]))

/-! ### Outages -/

/-- PURGE_REPORT (R142) and RELIGHT_REPORT (R143): their checks in their order, the segment's new supply state and relit
count, the reply; every open record's figures are then those of its members (R152), those of records that the event does
not touch by log entry 24; and the notice of the segment's record is raised (R153), but for the PURGE_REPORT of a segment
without customers whose record stays RESTORING (log entry 40). The reference 0 in the reply of a segment without an outage
is log entry 32's. -/
def Obligations.CrewReportsMoveSupply : Prop :=
  ∀ (s : State) (p : Port) (k : RequestKind) (tag : Byte) (pl : List Byte) (rest : List Request),
    s.offers p k tag pl rest → s.passes p k pl →
    let refused := s.refuses p k tag rest
    let figures : State → Prop := fun t => ∀ o ∈ t.outages, o.state ≠ .closed →
      o.off = ((t.segments.filter (fun g => g.outage = some o.ref ∧
        (g.supply = .off ∨ g.supply = .purge))).map (fun g => g.customers)).sum ∧
      o.awaiting = ((t.segments.filter (fun g => g.outage = some o.ref ∧ g.supply = .relight)).map
        (fun g => g.customers - g.relit)).sum
    let told : State → Segment → Bool → Prop := fun t g quiet => ∃ rs : List Raise, s.raised t rs ∧
      ∀ a ∈ s.outages, a.isOpen = true → g.outage = some a.ref → ∃ y ∈ t.outages, y.id = a.id ∧
        y.members = a.members ∧ y.cause = a.cause ∧
        (y.state = .closed → ⟨.outageClosed, a.ref, some (.members a.members.length)⟩ ∈ rs) ∧
        (y.state ≠ .closed → ¬ (quiet = true ∧ y.state = .restoring) →
          ⟨.outageChanged, a.ref, some (.outageChanged y.state y.off y.awaiting)⟩ ∈ rs) ∧
        (quiet = true → y.state = .restoring → ∀ r ∈ rs, r.kind ≠ .outageChanged)
    (k = .purgeReport →
      (s.segment? (u8 pl 0) = none → exec (.purgeReport p) s = refused .noSuch) ∧
      (∀ g, s.segment? (u8 pl 0) = some g →
        (g.supply ≠ .purge → exec (.purgeReport p) s = refused .wrongState) ∧
        (g.supply = .purge → ∃ t, exec (.purgeReport p) s = .next t ∧ figures t ∧
          (s.outagesSound → told t g (g.customers = 0)) ∧
          s.answered t p k tag rest .done
            (bytesOf 1 (if g.customers = 0 then 1 else 4) ++ bytesOf 2 (g.outage.getD 0)) ∧
          (g.customers = 0 → t.segment? g.id =
            some { g with supply := .live, relit := 0, outage := none }) ∧
          (g.customers ≠ 0 → t.segment? g.id = some { g with supply := .relight, relit := 0 }) ∧
          (∀ i, i ≠ g.id → t.segment? i = s.segment? i)))) ∧
    (k = .relightReport →
      let count := u16 pl 1
      (count = 0 → exec (.relightReport p) s = refused .badValue) ∧
      (count ≠ 0 → s.segment? (u8 pl 0) = none → exec (.relightReport p) s = refused .noSuch) ∧
      (∀ g, s.segment? (u8 pl 0) = some g → count ≠ 0 →
        let total := min (g.relit + count) g.customers
        (g.supply ≠ .relight → exec (.relightReport p) s = refused .wrongState) ∧
        (g.supply = .relight → ∃ t, exec (.relightReport p) s = .next t ∧ figures t ∧
          (s.outagesSound → told t g false) ∧
          s.answered t p k tag rest (if g.customers < g.relit + count then .doneClamped else .done)
            (bytesOf 1 (if total = g.customers then 1 else 4) ++ bytesOf 2 total ++
              bytesOf 3 g.customers ++ bytesOf 2 (g.outage.getD 0)) ∧
          (total = g.customers → t.segment? g.id =
            some { g with supply := .live, relit := 0, outage := none }) ∧
          (total ≠ g.customers → t.segment? g.id = some { g with relit := total }) ∧
          (∀ i, i ≠ g.id → t.segment? i = s.segment? i))))

/-! ### The store -/

/-- STORE_READ and STORE_WRITE (R200): a span that is not allowed is refused BAD_VALUE; one that is makes the store BUSY and
stays in service, and nothing else changes. STORE_READ_COMPLETE and STORE_WRITE_COMPLETE (R200): the bytes read, the bytes
written, or after a failure STORE_FAULT with each byte of the sector its former value, its new value or 0xFF (log entry
8); the store is IDLE, and the reply is discarded after a PORT_RESET (R190). -/
def Obligations.StoreRequestsRunToTheirCompletions : Prop :=
  (∀ (s : State) (p : Port) (tag : Byte) (pl : List Byte) (rest : List Request),
    let addr := u16 pl 0
    (s.offers p .storeRead tag pl rest → s.passes p .storeRead pl →
      let len := u8 pl 2
      let good := 1 ≤ len ∧ len ≤ 128 ∧ addr + len - 1 ≤ 65535
      (¬ good → exec (.storeRead p) s = s.refuses p .storeRead tag rest .badValue) ∧
      (good → exec (.storeRead p) s = .next
        (({ s.taken p rest with store := some (.read addr len) } : State).holdRequest p .storeRead
          tag))) ∧
    (s.offers p .storeWrite tag pl rest → s.passes p .storeWrite pl →
      let data := pl.drop 2
      let last := addr + data.length - 1
      let good := last ≤ 65535 ∧ last / 4096 = addr / 4096
      (¬ good → exec (.storeWrite p) s = s.refuses p .storeWrite tag rest .badValue) ∧
      (good → exec (.storeWrite p) s = .next
        (({ s.taken p rest with store := some (.write addr data) } : State).holdRequest p .storeWrite
          tag)))) ∧
  ∀ (s : State) (failed : Bool) (addr : Nat) (q : InService), s.portS.inService = some q →
    let replied : State → Result → List Byte → Prop := fun t code payload =>
      t.portS = { s.portS with
        inService := none
        replies := if q.discard then s.portS.replies
          else s.portS.replies ++ [replyFrame q.kind q.tag code payload] }
    (∀ len, s.store = some (.read addr len) →
      ∃ t, exec (.storeReadComplete failed) s = .next t ∧ t.store = none ∧ t.flash = s.flash ∧
        t.toPicture = s.toPicture ∧
        (failed = true → replied t .storeFault []) ∧
        (failed = false → replied t .done
          ((List.range len).map (fun i => flashRead s.flash (addr + i))))) ∧
    (∀ data, s.store = some (.write addr data) → s.flashSound →
      ∃ t, exec (.storeWriteComplete failed) s = .next t ∧ t.store = none ∧
        t.toPicture = s.toPicture ∧
        (failed = false → replied t .done [] ∧ ∀ a, flashRead t.flash a =
          if addr ≤ a ∧ a < addr + data.length then data.getD (a - addr) 0
          else flashRead s.flash a) ∧
        (failed = true → replied t .storeFault [] ∧ ∀ a,
          (a / 4096 ≠ addr / 4096 → flashRead t.flash a = flashRead s.flash a) ∧
          (flashRead t.flash a = flashRead s.flash a ∨ flashRead t.flash a = 0xFF#8 ∨
            (addr ≤ a ∧ a < addr + data.length ∧ flashRead t.flash a = data.getD (a - addr) 0))))

/-- RELOAD (R201) and RELOAD_COMPLETE (R201, R202, R61, R115): the preconditions; a flash failure or a bad image leaves
the model in service as it stands; a good one is placed in service with its values, the open outages closed, and the
sweep engine started anew on it. The orders still PROPOSED are CANCELLED, those of the waiting proposals first; such a
proposal, which only Port D can have, is answered WRONG_STATE with no payload, as is a waiting COMMIT whose order has
ended (log entry 19), and RELOAD itself DONE with the name and the counts. -/
def Obligations.ReloadReplacesTheModelOrLeavesIt : Prop :=
  (∀ e : SweepEngine, e.allRequests = (match e.flight with
    | .planned r _ => [r]
    | .idle | .actual _ => []) ++ e.requests) ∧
  (∀ (s : State) (p : Port) (tag : Byte) (pl : List Byte) (rest : List Request),
    s.offers p .reload tag pl rest → s.passes p .reload pl →
    let idle := (∀ o ∈ s.orders, o.state = .done ∨ o.state = .cancelled ∨ o.state = .expired) ∧
      (∀ c ∈ s.calls, c.state = .closed) ∧ (∀ o ∈ s.outages, o.state = .closed)
    (¬ idle → exec (.reload p) s = s.refuses p .reload tag rest .wrongState) ∧
    (idle → exec (.reload p) s = .next
      (({ s.taken p rest with store := some .reload } : State).holdRequest p .reload tag))) ∧
  (∀ (s : State) (failed : Bool) (q : InService), s.store = some .reload →
    s.portS.inService = some q →
    let kept : State → Result → List Byte → Prop := fun t code payload =>
      t.toPicture = s.toPicture ∧ t.grants = s.grants ∧ t.store = none ∧ t.flash = s.flash ∧
        t.portS = { s.portS with
          inService := none
          replies := if q.discard then s.portS.replies
            else s.portS.replies ++ [replyFrame q.kind q.tag code payload] }
    (failed = true → ∃ t, exec (.reloadComplete failed) s = .next t ∧ kept t .storeFault []) ∧
    (∀ bad, validate s.flash s.now = .error bad → failed = false →
      ∃ t, exec (.reloadComplete failed) s = .next t ∧
        kept t .imageBad (bytesOf 2 bad.1 ++ bytesOf 1 bad.2.code)) ∧
    (∀ img, validate s.flash s.now = .ok img → failed = false →
      ∃ t, exec (.reloadComplete failed) s = .next t ∧
        t.model = some ⟨img.name, img.version, s.now⟩ ∧ t.timing = img.timing ∧
        t.segments = img.segments ∧ t.valves = img.valves ∧ t.sources = img.sources ∧
        t.units = img.units ∧ t.channels = img.channels ∧ t.cmdQueue = [] ∧
        t.sweep = ⟨.actual (t.inputs []), false, [], img.segments.map (fun g => g.id), 0⟩ ∧
        t.grants = grantsOf img ∧ t.store = none ∧ t.flash = s.flash ∧
        (∀ o ∈ t.outages, o.state = .closed) ∧ t.customersOff = 0 ∧ t.awaitingRelight = 0 ∧
        t.calls = s.calls ∧ t.presence = s.presence ∧
        ((∀ r ∈ s.sweep.allRequests, r.port = .d) →
          t.portS = { s.portS with
            inService := none
            replies := if q.discard then s.portS.replies
              else s.portS.replies ++ [replyFrame q.kind q.tag .done (img.name ++
                bytesOf 2 img.segments.length ++ bytesOf 2 img.valves.length ++ bytesOf 1 img.sources.length ++
                bytesOf 1 img.units.length ++ bytesOf 2 img.channels.length)] } ∧
          t.portF = s.portF ∧
          (s.sweep.allRequests = [] → t.portD = s.portD) ∧
          (s.sweep.allRequests ≠ [] → ∀ d, s.portD.inService = some d → t.portD = { s.portD with
            inService := none
            replies := if d.discard then s.portD.replies
              else s.portD.replies ++ [replyFrame d.kind d.tag .wrongState []] })) ∧
        (s.ordersSound →
          t.orders = s.orders.map (fun o => if o.state = .proposed then
            { o with state := .cancelled, expiry := none } else o) ∧
          ∃ rs : List Raise, s.raised t rs ∧
            (∀ o ∈ s.orders, o.state = .proposed →
              ⟨.orderState, o.ref, some (.orderState .cancelled none)⟩ ∈ rs) ∧
            (∀ a ∈ s.outages, a.isOpen = true →
              ⟨.outageClosed, a.ref, some (.members a.members.length)⟩ ∈ rs) ∧
            let voided := (s.sweep.allRequests.filter (fun r => r.op = .propose)).filterMap (fun r =>
              ((s.orderByRef? r.ref).filter (fun o => o.state = .proposed)).map (fun o => o.slot))
            let others := (s.orders.filter (fun o => o.state = .proposed ∧ o.slot ∉ voided)).map
              (fun o => o.slot)
            t.terminalSlots = s.terminalSlots ++ voided.eraseDups ++ others)))

/-! ### Pressure -/

/-- UNIT_REPORT (R23 to R26, R29 to R36, R84) and WATCH_EXPIRY (R27): the unit's watch, the trip of a linked source with
SOURCE_STATE and an actual sweep asked for, and each channel reached, with its low-alarm mark (R41, R43); each segment
measured by the unit then has the summary and FALLING flag of its channels (R37), and where they have changed every open
call on it is evaluated (R38, R123 to R125); a reading at or below its vent level is marked in the decay lists of the
orders, and with the last one an order is ISOLATED and VERIFIED (R39, R104); and which pressure notices are raised, with
what detail (R40, R41, R43, R44). Whatever else ends a segment's suppression raises PRESSURE_LOW for each of its
channels that is LOW with its mark set, and clears the mark (R42). A watch does not expire before its deadline (log
entry 2), and may after it has passed (log entry 3). -/
def Obligations.ReportsAndWatchesWriteTheirUnit : Prop :=
  (∀ (s : State) (tag : Byte) (pl : List Byte) (rest : List Request),
    s.offersReport .unitReport tag pl rest → s.passes .f .unitReport pl →
    ∃ t, exec (.unitReport .f) s = .next t ∧ t.port .f = { s.port .f with inbound := rest } ∧
      (s.unit? (u8 pl 0) = none ∨ u8 pl 3 = 0 ∨ 4 < u8 pl 3 → t.toPicture = s.toPicture) ∧
      (∀ u, s.unit? (u8 pl 0) = some u → 1 ≤ u8 pl 3 → u8 pl 3 ≤ 4 →
        t.unit? u.id = some { u with
          watch := .fresh, deadline := s.now + u.timeout, tripped := decide (u8 pl 1 ≠ 0)
          lastReport := some s.now } ∧
        (u8 pl 1 ≠ 0 → ∀ i, u.source = some i → ∀ q, s.source? i = some q →
          t.source? i = some { q with state := .out, cause := some .trip } ∧
          (¬ (q.state = .out ∧ q.cause = some .trip) → t.sweepIsAsked)) ∧
        (∀ q ∈ s.sources, u8 pl 1 = 0 ∨ u.source ≠ some q.id → t.source? q.id = s.source? q.id) ∧
        (∀ g ∈ t.segments, t.segment? g.id = some g →
          (∃ c ∈ s.channels, c.unit = u.id ∧ c.segment = g.id) →
          g.summary = summaryOf (t.channelsOf g.id) ∧ g.falling = fallingOf (t.channelsOf g.id)) ∧
        (s.ordersSound → s.interlockHolds → s.blocksSteps t) ∧
        ∃ rs : List Raise, s.raised t rs ∧
          (s.callsSound → (s.segments.map (fun g => g.id)).Pairwise (· < ·) → s.callsEvaluated t rs) ∧
          (s.ordersSound →
            let met : Nat → Nat → Bool := fun unit i => unit == u.id && decide (i < u.channelCount) &&
              !(pl.getD 2 0).getLsbD i && decide (i < u8 pl 3) &&
              (t.channel? unit i).any (fun c => c.vent != 0 && c.f.any (fun f => decide (f ≤ c.vent)))
            ∀ o ∈ s.orders, o.state ≠ .restoring →
              t.order? o.slot = some (o.afterReadings met) ∧
              ((o.afterReadings met).state ≠ o.state →
                ⟨.orderState, o.ref, some (.orderState .isolated (some .verified))⟩ ∈ rs)) ∧
          raisedWhen rs .unitFresh u.id (some (.watchLeft u.watch)) (u.watch ≠ .fresh) ∧
          (∀ i, u.source = some i → ∀ q, s.source? i = some q →
            raisedWhen rs .sourceState i (some (.sourceState .out (some .trip)))
              (u8 pl 1 ≠ 0 ∧ ¬ (q.state = .out ∧ q.cause = some .trip))) ∧
          ∀ i, i < 4 → ∀ c, s.channel? u.id i = some c →
            let reached := i < u.channelCount
            let faulty := reached ∧ (pl.getD 2 0).getLsbD i = true
            let updated := reached ∧ (pl.getD 2 0).getLsbD i = false ∧ i < u8 pl 3
            let r := u16 pl (4 + 2 * i)
            let old := c.f.getD 0
            let p := min (((r - c.zero) * c.gain + 128) / 256) 1048575
            let f := if c.fresh then filterStep c.shift old p else p
            let state := if c.fresh then limitState c f else enterLimits c f
            let falling := c.fresh && decide (c.fallLimit ≠ 0) &&
              (decide (c.fallLimit ≤ old - f) || (c.falling && decide (f < old)))
            let held := (s.segment? c.segment).any (fun g =>
              g.supply == .off || g.supply == .purge || g.holders != [])
            let told := fun k => raisedWhen rs k (4 * u.id + i)
            (¬ faulty → ¬ updated → t.channel? u.id i = some c) ∧
            (faulty → t.channel? u.id i = some { c with
              state := .fault, lowPending := decide (c.state = .fault) && c.lowPending }) ∧
            (updated → t.channel? u.id i = some { c with
              raw := some r, p := some p, f := some f
              underRange := decide (r < c.zero)
              overRange := decide (1048575 < ((r - c.zero) * c.gain + 128) / 256)
              state := state, falling := falling, updated := some s.now
              lowPending := decide (state = .low) && if c.state = .low then c.lowPending else held }) ∧
            told .channelFault (c.f.map Detail.pressure) (faulty ∧ c.state ≠ .fault) ∧
            told .pressureLow (some (.pressure f))
              (updated ∧ state = .low ∧ c.state ≠ .low ∧ held = false) ∧
            told .pressureHigh (some (.pressure f)) (updated ∧ state = .high ∧ c.state ≠ .high) ∧
            told .pressureNormal (some (.pressure f)) (updated ∧ state = .normal ∧
              ((c.state = .low ∧ c.lowPending = false) ∨ c.state = .high)) ∧
            told .rapidFall (some (.pressure (old - f))) (updated ∧ falling = true ∧ c.falling = false))) ∧
  (∀ (s : State) (u : FieldUnit), s.unit? u.id = some u → u.id ≤ 63 →
    (u.watch = .stale ∨ s.now < u.deadline → exec (.watchExpiry u.id) s = .next s) ∧
    (u.watch ≠ .stale → u.deadline ≤ s.now → ∃ t, exec (.watchExpiry u.id) s = .next t ∧
      t.units = s.units.map (fun x => if x.id = u.id then { x with watch := .stale } else x) ∧
      t.channels = s.channels.map (fun c => if c.unit = u.id then
        { c with state := .stale, lowPending := decide (c.state ≠ .low) && c.lowPending } else c) ∧
      (∀ g ∈ t.segments, t.segment? g.id = some g →
        (∃ c ∈ s.channels, c.unit = u.id ∧ c.segment = g.id) →
        g.summary = summaryOf (t.channelsOf g.id) ∧ g.falling = fallingOf (t.channelsOf g.id)) ∧
      (s.ordersSound → s.interlockHolds → s.blocksSteps t ∧
        ∀ o ∈ s.orders, o.state ≠ .restoring → t.order? o.slot = some o) ∧
      ∃ rs : List Raise, s.raised t rs ∧
        (s.callsSound → (s.segments.map (fun g => g.id)).Pairwise (· < ·) → s.callsEvaluated t rs) ∧
        ∀ m, s.model = some m → raisedWhen rs .unitStale u.id (some (.time (u.lastReport.getD m.placedAt))) True)) ∧
  ∀ (c : Instr) (s t : State), exec c s = .next t → writesUnits c = false → s.channelsSound →
    (s.segments.map (fun g => g.id)).Pairwise (· < ·) →
    let ended : Channel → Prop := fun ch => ch.state = .low ∧ ch.lowPending = true ∧
      ∃ g ∈ s.segments, g.id = ch.segment ∧ g.suppressed = true ∧
        ∃ h ∈ t.segments, h.id = g.id ∧ h.suppressed = false
    (∀ ch ∈ s.channels, ended ch →
      t.channel? ch.unit ch.index = some { ch with lowPending := false }) ∧
    (∀ ch ∈ s.channels, ¬ ended ch → t.channel? ch.unit ch.index = some ch) ∧
    ((∃ ch ∈ s.channels, ended ch) → ∃ rs : List Raise, s.raised t rs ∧ ∀ ch ∈ s.channels,
      raisedWhen rs .pressureLow (4 * ch.unit + ch.index) (some (.pressure (ch.f.getD 0))) (ended ch))
end

