-- ==== Sys2Proof/Laws/Memory.lean ====
section
/-! SUPPORT. The flash: every operation keeps the canonical form, and what a read gives after a write. -/

namespace Sys2Proof.Machine

theorem flashWf_cons (a : Nat) (b : Byte) (rest : List Host.Cell) :
    flashWf ((a, b) :: rest) = true ↔
      a < 65536 ∧ b ≠ erased ∧ (∀ c ∈ rest, a < c.1) ∧ flashWf rest = true := by
  simp [flashWf, and_assoc]

/-- Every address of a written flash is the written one or was there before. -/
theorem mem_flashWrite {a : Nat} {b : Byte} {m : List Host.Cell} {c : Host.Cell}
    (h : c ∈ flashWrite a b m) : c = (a, b) ∨ c ∈ m := by
  induction m with
  | nil => simp only [flashWrite] at h; split at h <;> simp_all
  | cons x rest ih =>
    obtain ⟨k, v⟩ := x
    simp only [flashWrite] at h
    split at h
    · split at h <;> simp_all
    · split at h
      · split at h <;> simp_all
        rcases h with h | h <;> simp [h]
      · rcases List.mem_cons.mp h with h | h
        · simp [h]
        · rcases ih h with h | h <;> simp [h]

/-- A write keeps the canonical form. -/
theorem flashWrite_wf {a : Nat} {b : Byte} {m : List Host.Cell} (hm : flashWf m = true)
    (ha : a < 65536) : flashWf (flashWrite a b m) = true := by
  induction m with
  | nil =>
    simp only [flashWrite]
    split
    · rfl
    · rename_i hb
      exact (flashWf_cons a b []).mpr ⟨ha, hb, by simp, rfl⟩
  | cons x rest ih =>
    obtain ⟨k, v⟩ := x
    obtain ⟨hk, hv, hlt, hr⟩ := (flashWf_cons k v rest).mp hm
    simp only [flashWrite]
    split
    · rename_i hak
      split
      · exact hm
      · rename_i hb
        refine (flashWf_cons a b _).mpr ⟨ha, hb, ?_, hm⟩
        intro c hc
        rcases List.mem_cons.mp hc with h | h
        · simp [h, hak]
        · exact Nat.lt_trans hak (hlt c h)
    · split
      · rename_i _ hak
        subst hak
        split
        · exact hr
        · rename_i hb
          exact (flashWf_cons a b rest).mpr ⟨ha, hb, hlt, hr⟩
      · rename_i h1 h2
        refine (flashWf_cons k v _).mpr ⟨hk, hv, ?_, ih hr⟩
        intro c hc
        rcases mem_flashWrite hc with h | h
        · simp only [h]; omega
        · exact hlt c h

theorem flashRead_nil (a : Nat) : flashRead [] a = erased := rfl

theorem flashRead_cons (k : Nat) (v : Byte) (rest : List Host.Cell) (x : Nat) :
    flashRead ((k, v) :: rest) x = if k = x then v else flashRead rest x := by
  unfold flashRead
  by_cases h : k = x
  · simp [h]
  · rw [List.find?_cons_of_neg (by simpa using h), if_neg h]

/-- Below every listed address the flash reads as erased. -/
theorem flashRead_below {m : List Host.Cell} {x : Nat} (h : ∀ c ∈ m, x < c.1) :
    flashRead m x = erased := by
  induction m with
  | nil => rfl
  | cons y rest ih =>
    obtain ⟨k, v⟩ := y
    have hk : x < k := h (k, v) (by simp)
    rw [flashRead_cons, if_neg (by omega)]
    exact ih (fun c hc => h c (List.mem_cons_of_mem _ hc))

/-- What a read gives after a write of one byte. -/
theorem flashRead_flashWrite {a : Nat} {b : Byte} {m : List Host.Cell} (hm : flashWf m = true) (x : Nat) :
    flashRead (flashWrite a b m) x = if x = a then b else flashRead m x := by
  induction m with
  | nil =>
    simp only [flashWrite]
    split
    · rename_i hb; split <;> simp [flashRead_nil, hb]
    · rw [flashRead_cons]
      by_cases h : x = a
      · simp [h]
      · rw [if_neg (fun h' => h h'.symm), if_neg h]
  | cons y rest ih =>
    obtain ⟨k, v⟩ := y
    obtain ⟨hk, hv, hlt, hr⟩ := (flashWf_cons k v rest).mp hm
    simp only [flashWrite]
    split
    · rename_i hak
      have hbelow : flashRead ((k, v) :: rest) a = erased := by
        apply flashRead_below
        intro c hc
        rcases List.mem_cons.mp hc with h | h
        · simp [h, hak]
        · exact Nat.lt_trans hak (hlt c h)
      split
      · rename_i hb
        by_cases h : x = a
        · rw [if_pos h, h, hbelow, hb]
        · rw [if_neg h]
      · rw [flashRead_cons a]
        by_cases h : x = a
        · simp [h]
        · rw [if_neg (fun h' => h h'.symm), if_neg h]
    · split
      · rename_i _ hak
        subst hak
        split
        · rename_i hb
          by_cases h : x = a
          · rw [if_pos h, h, hb]; exact flashRead_below hlt
          · rw [if_neg h, flashRead_cons, if_neg (fun h' => h h'.symm)]
        · rw [flashRead_cons, flashRead_cons]
          by_cases h : x = a
          · simp [h]
          · rw [if_neg h, if_neg (fun h' => h h'.symm), if_neg (fun h' => h h'.symm)]
      · rename_i h1 h2
        rw [flashRead_cons, flashRead_cons, ih hr]
        by_cases h : x = a
        · subst h; rw [if_neg (by omega)]; simp
        · simp [h]

/-- Writing a span keeps the canonical form. -/
theorem flashWriteSpan_wf {bs : List Byte} : ∀ {a : Nat} {m : List Host.Cell}, flashWf m = true →
    a + bs.length ≤ 65536 → flashWf (flashWriteSpan m a bs) = true := by
  induction bs with
  | nil => intro a m hm _; exact hm
  | cons b bs ih =>
    intro a m hm ha
    simp only [List.length_cons] at ha
    exact ih (flashWrite_wf hm (by omega)) (by omega)

/-- What a read gives after a span is written: the span's bytes inside it, the former bytes outside. -/
theorem flashRead_flashWriteSpan {bs : List Byte} : ∀ {a : Nat} {m : List Host.Cell}, flashWf m = true →
    a + bs.length ≤ 65536 → ∀ x, flashRead (flashWriteSpan m a bs) x =
      if a ≤ x ∧ x < a + bs.length then bs.getD (x - a) 0 else flashRead m x := by
  induction bs with
  | nil =>
    intro a m _ _ x
    rw [if_neg (by simp only [List.length_nil]; omega)]; rfl
  | cons b bs ih =>
    intro a m hm ha x
    simp only [List.length_cons] at ha
    have := ih (m := flashWrite a b m) (a := a + 1) (flashWrite_wf hm (by omega)) (by omega) x
    simp only [flashWriteSpan, this, flashRead_flashWrite hm, List.length_cons]
    by_cases hx : x = a
    · subst hx
      rw [if_neg (by omega), if_pos rfl, if_pos (by omega)]; simp
    · rw [if_neg hx]
      by_cases hin : a + 1 ≤ x ∧ x < a + 1 + bs.length
      · rw [if_pos hin, if_pos (by omega)]
        obtain ⟨n, rfl⟩ : ∃ n, x = a + 1 + n := ⟨x - (a + 1), by omega⟩
        have h1 : a + 1 + n - (a + 1) = n := by omega
        have h2 : a + 1 + n - a = n + 1 := by omega
        rw [h1, h2]; simp
      · rw [if_neg hin, if_neg (by omega)]

/-- A span read back is as long as asked. -/
theorem flashSpan_length (m : List Host.Cell) (a n : Nat) : (flashSpan m a n).length = n := by
  induction n generalizing a with
  | zero => rfl
  | succ n ih => simp [flashSpan, ih]

/-- The sector of an address inside the flash lies inside the flash. -/
theorem sectorBase_le {a : Nat} (h : a < 65536) : sectorBase a + 4096 ≤ 65536 := by
  unfold sectorBase; omega

/-- A failed write keeps the canonical form. -/
theorem failedWrite_wf {m : List Host.Cell} {addr : Nat} {data : List Byte} (draw : Nat)
    (hm : flashWf m = true) (ha : addr < 65536) : flashWf (failedWrite draw m addr data) = true :=
  flashWriteSpan_wf hm (by simpa using sectorBase_le ha)

/-- A write that a cold start cuts short keeps the canonical form. -/
theorem interruptedWrite_wf {m : List Host.Cell} {addr : Nat} (draw : Nat)
    (hm : flashWf m = true) (ha : addr < 65536) : flashWf (interruptedWrite draw m addr) = true :=
  flashWriteSpan_wf hm (by simpa using sectorBase_le ha)

/-- The flash at reset is in canonical form. -/
theorem reset_flash_wf : flashWf State.reset.flash = true := rfl

end Sys2Proof.Machine
end

