-- ==== Sys2Proof/WellFormed.lean ====
section
/-! DEFINITION. The ranges of the operands that name a record (01: R1; 05: R87; 06: R116). -/

namespace Sys2Proof

/-- A unit id lies in 0 to 63, a valve id in 0 to 511, an order slot in 0 to 15 and a call slot in 0 to 127
(00: Capacities). Bytes, codes and counts of a transfer are the master's, and any of them can come. -/
def Instr.wf : Instr → Bool
  | .watchExpiry u => u < 64
  | .travelDeadlineExpiry v => v < 512
  | .decayDeadlineExpiry k => k < 16
  | .proposalExpiry k => k < 16
  | .callDeadlineExpiry k => k < 128
  | .coldStart | .coldStartLoadComplete _ | .secondsCounterTick | .transferStart _ _
  | .writeTransfer _ _ | .readTransfer _ _ | .statusTransfer _ | .presenceExpiry
  | .unknownKindRequest _ | .status _ | .portReset _ _ | .readTable _ | .pullNotice _
  | .setNoticeMask _ | .proposeIsolation _ | .commitOrder _ | .cancelOrder _ | .beginRestore _
  | .valveOperate _ | .valveAssert _ | .valveMark _ | .setSource _ | .crewValveReport _
  | .logCall _ | .nextCall _ | .assignCall _ | .callProgress _ | .purgeReport _
  | .relightReport _ | .storeRead _ | .storeReadComplete _ | .storeWrite _
  | .storeWriteComplete _ | .reload _ | .reloadComplete _ | .unitReport _ | .positionReport _
  | .pullCommand _ | .actualSweepComplete | .plannedSweepComplete => true

end Sys2Proof
end

