-- ==== Sys2Proof/Laws/PerInstr.lean ====
section
/-! SUPPORT. What holds of every command as syntax: the range of the record it names, and that no word spells it. -/

namespace Sys2Proof.Laws

/-- The record a command names by an operand, with the number of records of that kind (00: Capacities). -/
def recordId : Instr → Option (Nat × Nat)
  | .watchExpiry u => some (u, 64)
  | .travelDeadlineExpiry v => some (v, 512)
  | .decayDeadlineExpiry k => some (k, 16)
  | .proposalExpiry k => some (k, 16)
  | .callDeadlineExpiry k => some (k, 128)
  | .coldStart | .coldStartLoadComplete _ | .secondsCounterTick | .transferStart _ _
  | .writeTransfer _ _ | .readTransfer _ _ | .statusTransfer _ | .presenceExpiry
  | .unknownKindRequest _ | .status _ | .portReset _ _ | .readTable _ | .pullNotice _
  | .setNoticeMask _ | .proposeIsolation _ | .commitOrder _ | .cancelOrder _ | .beginRestore _
  | .valveOperate _ | .valveAssert _ | .valveMark _ | .setSource _ | .crewValveReport _
  | .logCall _ | .nextCall _ | .assignCall _ | .callProgress _ | .purgeReport _
  | .relightReport _ | .storeRead _ | .storeReadComplete _ | .storeWrite _
  | .storeWriteComplete _ | .reload _ | .reloadComplete _ | .unitReport _ | .positionReport _
  | .pullCommand _ | .actualSweepComplete | .plannedSweepComplete => none

namespace RoomForIds

/-- A command is well-formed exactly when the record it names has room, and no word spells it. -/
def Statement (i : Instr) : Prop :=
  (i.wf = true ↔ ∀ x ∈ recordId i, x.1 < x.2) ∧ ∀ nbits w, decodeTableWord nbits w ≠ some i

theorem every (i : Instr) : Statement i := by
  cases i <;> simp [Statement, Instr.wf, recordId, decodeTableWord]

theorem coldStart : Statement .coldStart := every _
theorem coldStartLoadComplete (flashFailed : Bool) : Statement (.coldStartLoadComplete flashFailed) := every _
theorem secondsCounterTick : Statement .secondsCounterTick := every _
theorem transferStart (p : Port) (code : Byte) : Statement (.transferStart p code) := every _
theorem writeTransfer (p : Port) (bytes : List Byte) : Statement (.writeTransfer p bytes) := every _
theorem readTransfer (p : Port) (clocked : Nat) : Statement (.readTransfer p clocked) := every _
theorem statusTransfer (p : Port) : Statement (.statusTransfer p) := every _
theorem presenceExpiry : Statement .presenceExpiry := every _
theorem unknownKindRequest (p : Port) : Statement (.unknownKindRequest p) := every _
theorem status (p : Port) : Statement (.status p) := every _
theorem portReset (p : Port) (tag : Byte) : Statement (.portReset p tag) := every _
theorem readTable (p : Port) : Statement (.readTable p) := every _
theorem pullNotice (p : Port) : Statement (.pullNotice p) := every _
theorem setNoticeMask (p : Port) : Statement (.setNoticeMask p) := every _
theorem proposeIsolation (p : Port) : Statement (.proposeIsolation p) := every _
theorem commitOrder (p : Port) : Statement (.commitOrder p) := every _
theorem cancelOrder (p : Port) : Statement (.cancelOrder p) := every _
theorem beginRestore (p : Port) : Statement (.beginRestore p) := every _
theorem valveOperate (p : Port) : Statement (.valveOperate p) := every _
theorem valveAssert (p : Port) : Statement (.valveAssert p) := every _
theorem valveMark (p : Port) : Statement (.valveMark p) := every _
theorem setSource (p : Port) : Statement (.setSource p) := every _
theorem crewValveReport (p : Port) : Statement (.crewValveReport p) := every _
theorem logCall (p : Port) : Statement (.logCall p) := every _
theorem nextCall (p : Port) : Statement (.nextCall p) := every _
theorem assignCall (p : Port) : Statement (.assignCall p) := every _
theorem callProgress (p : Port) : Statement (.callProgress p) := every _
theorem purgeReport (p : Port) : Statement (.purgeReport p) := every _
theorem relightReport (p : Port) : Statement (.relightReport p) := every _
theorem storeRead (p : Port) : Statement (.storeRead p) := every _
theorem storeReadComplete (flashFailed : Bool) : Statement (.storeReadComplete flashFailed) := every _
theorem storeWrite (p : Port) : Statement (.storeWrite p) := every _
theorem storeWriteComplete (flashFailed : Bool) : Statement (.storeWriteComplete flashFailed) := every _
theorem reload (p : Port) : Statement (.reload p) := every _
theorem reloadComplete (flashFailed : Bool) : Statement (.reloadComplete flashFailed) := every _
theorem unitReport (p : Port) : Statement (.unitReport p) := every _
theorem watchExpiry (unit : Nat) : Statement (.watchExpiry unit) := every _
theorem positionReport (p : Port) : Statement (.positionReport p) := every _
theorem travelDeadlineExpiry (valve : Nat) : Statement (.travelDeadlineExpiry valve) := every _
theorem pullCommand (p : Port) : Statement (.pullCommand p) := every _
theorem actualSweepComplete : Statement .actualSweepComplete := every _
theorem plannedSweepComplete : Statement .plannedSweepComplete := every _
theorem decayDeadlineExpiry (slot : Nat) : Statement (.decayDeadlineExpiry slot) := every _
theorem proposalExpiry (slot : Nat) : Statement (.proposalExpiry slot) := every _
theorem callDeadlineExpiry (slot : Nat) : Statement (.callDeadlineExpiry slot) := every _

end RoomForIds

end Sys2Proof.Laws
end

