-- ==== Sys2Proof/Laws/State.lean ====
section
/-! SUPPORT. One lemma per field per update, each true by rfl (or by the three cases of a port): what an update of the
picture or of the state writes, and what it leaves. -/

namespace Sys2Proof.Machine

/-! ### Updates of an event's work -/

section
variable (w : Work)

@[simp] theorem Work.raise_toPicture (k : NoticeKind) (n : Nat) (d : Option Detail) :
    (w.raise k n d).toPicture = w.toPicture := rfl
@[simp] theorem Work.raise_out (k : NoticeKind) (n : Nat) (d : Option Detail) :
    (w.raise k n d).out = w.out ++ [⟨k, n, d⟩] := rfl
@[simp] theorem Work.updSegment_segments (id : Nat) (g : Segment → Segment) :
    (w.updSegment id g).segments = w.segments.map (fun x => if x.id == id then g x else x) := rfl
@[simp] theorem Work.updSegment_now (id : Nat) (g : Segment → Segment) : (w.updSegment id g).now = w.now := rfl
@[simp] theorem Work.updSegment_model (id : Nat) (g : Segment → Segment) : (w.updSegment id g).model = w.model := rfl
@[simp] theorem Work.updSegment_timing (id : Nat) (g : Segment → Segment) : (w.updSegment id g).timing = w.timing := rfl
@[simp] theorem Work.updSegment_valves (id : Nat) (g : Segment → Segment) : (w.updSegment id g).valves = w.valves := rfl
@[simp] theorem Work.updSegment_sources (id : Nat) (g : Segment → Segment) : (w.updSegment id g).sources = w.sources := rfl
@[simp] theorem Work.updSegment_units (id : Nat) (g : Segment → Segment) : (w.updSegment id g).units = w.units := rfl
@[simp] theorem Work.updSegment_channels (id : Nat) (g : Segment → Segment) : (w.updSegment id g).channels = w.channels := rfl
@[simp] theorem Work.updSegment_sweep (id : Nat) (g : Segment → Segment) : (w.updSegment id g).sweep = w.sweep := rfl
@[simp] theorem Work.updSegment_cmdQueue (id : Nat) (g : Segment → Segment) : (w.updSegment id g).cmdQueue = w.cmdQueue := rfl
@[simp] theorem Work.updSegment_orders (id : Nat) (g : Segment → Segment) : (w.updSegment id g).orders = w.orders := rfl
@[simp] theorem Work.updSegment_nextOrderRef (id : Nat) (g : Segment → Segment) : (w.updSegment id g).nextOrderRef = w.nextOrderRef := rfl
@[simp] theorem Work.updSegment_terminalSlots (id : Nat) (g : Segment → Segment) : (w.updSegment id g).terminalSlots = w.terminalSlots := rfl
@[simp] theorem Work.updSegment_calls (id : Nat) (g : Segment → Segment) : (w.updSegment id g).calls = w.calls := rfl
@[simp] theorem Work.updSegment_nextCallRef (id : Nat) (g : Segment → Segment) : (w.updSegment id g).nextCallRef = w.nextCallRef := rfl
@[simp] theorem Work.updSegment_closedCalls (id : Nat) (g : Segment → Segment) : (w.updSegment id g).closedCalls = w.closedCalls := rfl
@[simp] theorem Work.updSegment_outages (id : Nat) (g : Segment → Segment) : (w.updSegment id g).outages = w.outages := rfl
@[simp] theorem Work.updSegment_nextOutageRef (id : Nat) (g : Segment → Segment) : (w.updSegment id g).nextOutageRef = w.nextOutageRef := rfl
@[simp] theorem Work.updSegment_openedOutages (id : Nat) (g : Segment → Segment) : (w.updSegment id g).openedOutages = w.openedOutages := rfl
@[simp] theorem Work.updSegment_closedOutages (id : Nat) (g : Segment → Segment) : (w.updSegment id g).closedOutages = w.closedOutages := rfl
@[simp] theorem Work.updSegment_customersOff (id : Nat) (g : Segment → Segment) : (w.updSegment id g).customersOff = w.customersOff := rfl
@[simp] theorem Work.updSegment_awaitingRelight (id : Nat) (g : Segment → Segment) : (w.updSegment id g).awaitingRelight = w.awaitingRelight := rfl
@[simp] theorem Work.updSegment_out (id : Nat) (g : Segment → Segment) : (w.updSegment id g).out = w.out := rfl
@[simp] theorem Work.updValve_valves (id : Nat) (g : Valve → Valve) :
    (w.updValve id g).valves = w.valves.map (fun x => if x.id == id then g x else x) := rfl
@[simp] theorem Work.updValve_now (id : Nat) (g : Valve → Valve) : (w.updValve id g).now = w.now := rfl
@[simp] theorem Work.updValve_model (id : Nat) (g : Valve → Valve) : (w.updValve id g).model = w.model := rfl
@[simp] theorem Work.updValve_timing (id : Nat) (g : Valve → Valve) : (w.updValve id g).timing = w.timing := rfl
@[simp] theorem Work.updValve_segments (id : Nat) (g : Valve → Valve) : (w.updValve id g).segments = w.segments := rfl
@[simp] theorem Work.updValve_sources (id : Nat) (g : Valve → Valve) : (w.updValve id g).sources = w.sources := rfl
@[simp] theorem Work.updValve_units (id : Nat) (g : Valve → Valve) : (w.updValve id g).units = w.units := rfl
@[simp] theorem Work.updValve_channels (id : Nat) (g : Valve → Valve) : (w.updValve id g).channels = w.channels := rfl
@[simp] theorem Work.updValve_sweep (id : Nat) (g : Valve → Valve) : (w.updValve id g).sweep = w.sweep := rfl
@[simp] theorem Work.updValve_cmdQueue (id : Nat) (g : Valve → Valve) : (w.updValve id g).cmdQueue = w.cmdQueue := rfl
@[simp] theorem Work.updValve_orders (id : Nat) (g : Valve → Valve) : (w.updValve id g).orders = w.orders := rfl
@[simp] theorem Work.updValve_nextOrderRef (id : Nat) (g : Valve → Valve) : (w.updValve id g).nextOrderRef = w.nextOrderRef := rfl
@[simp] theorem Work.updValve_terminalSlots (id : Nat) (g : Valve → Valve) : (w.updValve id g).terminalSlots = w.terminalSlots := rfl
@[simp] theorem Work.updValve_calls (id : Nat) (g : Valve → Valve) : (w.updValve id g).calls = w.calls := rfl
@[simp] theorem Work.updValve_nextCallRef (id : Nat) (g : Valve → Valve) : (w.updValve id g).nextCallRef = w.nextCallRef := rfl
@[simp] theorem Work.updValve_closedCalls (id : Nat) (g : Valve → Valve) : (w.updValve id g).closedCalls = w.closedCalls := rfl
@[simp] theorem Work.updValve_outages (id : Nat) (g : Valve → Valve) : (w.updValve id g).outages = w.outages := rfl
@[simp] theorem Work.updValve_nextOutageRef (id : Nat) (g : Valve → Valve) : (w.updValve id g).nextOutageRef = w.nextOutageRef := rfl
@[simp] theorem Work.updValve_openedOutages (id : Nat) (g : Valve → Valve) : (w.updValve id g).openedOutages = w.openedOutages := rfl
@[simp] theorem Work.updValve_closedOutages (id : Nat) (g : Valve → Valve) : (w.updValve id g).closedOutages = w.closedOutages := rfl
@[simp] theorem Work.updValve_customersOff (id : Nat) (g : Valve → Valve) : (w.updValve id g).customersOff = w.customersOff := rfl
@[simp] theorem Work.updValve_awaitingRelight (id : Nat) (g : Valve → Valve) : (w.updValve id g).awaitingRelight = w.awaitingRelight := rfl
@[simp] theorem Work.updValve_out (id : Nat) (g : Valve → Valve) : (w.updValve id g).out = w.out := rfl
@[simp] theorem Work.updSource_sources (id : Nat) (g : Source → Source) :
    (w.updSource id g).sources = w.sources.map (fun x => if x.id == id then g x else x) := rfl
@[simp] theorem Work.updSource_now (id : Nat) (g : Source → Source) : (w.updSource id g).now = w.now := rfl
@[simp] theorem Work.updSource_model (id : Nat) (g : Source → Source) : (w.updSource id g).model = w.model := rfl
@[simp] theorem Work.updSource_timing (id : Nat) (g : Source → Source) : (w.updSource id g).timing = w.timing := rfl
@[simp] theorem Work.updSource_segments (id : Nat) (g : Source → Source) : (w.updSource id g).segments = w.segments := rfl
@[simp] theorem Work.updSource_valves (id : Nat) (g : Source → Source) : (w.updSource id g).valves = w.valves := rfl
@[simp] theorem Work.updSource_units (id : Nat) (g : Source → Source) : (w.updSource id g).units = w.units := rfl
@[simp] theorem Work.updSource_channels (id : Nat) (g : Source → Source) : (w.updSource id g).channels = w.channels := rfl
@[simp] theorem Work.updSource_sweep (id : Nat) (g : Source → Source) : (w.updSource id g).sweep = w.sweep := rfl
@[simp] theorem Work.updSource_cmdQueue (id : Nat) (g : Source → Source) : (w.updSource id g).cmdQueue = w.cmdQueue := rfl
@[simp] theorem Work.updSource_orders (id : Nat) (g : Source → Source) : (w.updSource id g).orders = w.orders := rfl
@[simp] theorem Work.updSource_nextOrderRef (id : Nat) (g : Source → Source) : (w.updSource id g).nextOrderRef = w.nextOrderRef := rfl
@[simp] theorem Work.updSource_terminalSlots (id : Nat) (g : Source → Source) : (w.updSource id g).terminalSlots = w.terminalSlots := rfl
@[simp] theorem Work.updSource_calls (id : Nat) (g : Source → Source) : (w.updSource id g).calls = w.calls := rfl
@[simp] theorem Work.updSource_nextCallRef (id : Nat) (g : Source → Source) : (w.updSource id g).nextCallRef = w.nextCallRef := rfl
@[simp] theorem Work.updSource_closedCalls (id : Nat) (g : Source → Source) : (w.updSource id g).closedCalls = w.closedCalls := rfl
@[simp] theorem Work.updSource_outages (id : Nat) (g : Source → Source) : (w.updSource id g).outages = w.outages := rfl
@[simp] theorem Work.updSource_nextOutageRef (id : Nat) (g : Source → Source) : (w.updSource id g).nextOutageRef = w.nextOutageRef := rfl
@[simp] theorem Work.updSource_openedOutages (id : Nat) (g : Source → Source) : (w.updSource id g).openedOutages = w.openedOutages := rfl
@[simp] theorem Work.updSource_closedOutages (id : Nat) (g : Source → Source) : (w.updSource id g).closedOutages = w.closedOutages := rfl
@[simp] theorem Work.updSource_customersOff (id : Nat) (g : Source → Source) : (w.updSource id g).customersOff = w.customersOff := rfl
@[simp] theorem Work.updSource_awaitingRelight (id : Nat) (g : Source → Source) : (w.updSource id g).awaitingRelight = w.awaitingRelight := rfl
@[simp] theorem Work.updSource_out (id : Nat) (g : Source → Source) : (w.updSource id g).out = w.out := rfl
@[simp] theorem Work.updUnit_units (id : Nat) (g : FieldUnit → FieldUnit) :
    (w.updUnit id g).units = w.units.map (fun x => if x.id == id then g x else x) := rfl
@[simp] theorem Work.updUnit_now (id : Nat) (g : FieldUnit → FieldUnit) : (w.updUnit id g).now = w.now := rfl
@[simp] theorem Work.updUnit_model (id : Nat) (g : FieldUnit → FieldUnit) : (w.updUnit id g).model = w.model := rfl
@[simp] theorem Work.updUnit_timing (id : Nat) (g : FieldUnit → FieldUnit) : (w.updUnit id g).timing = w.timing := rfl
@[simp] theorem Work.updUnit_segments (id : Nat) (g : FieldUnit → FieldUnit) : (w.updUnit id g).segments = w.segments := rfl
@[simp] theorem Work.updUnit_valves (id : Nat) (g : FieldUnit → FieldUnit) : (w.updUnit id g).valves = w.valves := rfl
@[simp] theorem Work.updUnit_sources (id : Nat) (g : FieldUnit → FieldUnit) : (w.updUnit id g).sources = w.sources := rfl
@[simp] theorem Work.updUnit_channels (id : Nat) (g : FieldUnit → FieldUnit) : (w.updUnit id g).channels = w.channels := rfl
@[simp] theorem Work.updUnit_sweep (id : Nat) (g : FieldUnit → FieldUnit) : (w.updUnit id g).sweep = w.sweep := rfl
@[simp] theorem Work.updUnit_cmdQueue (id : Nat) (g : FieldUnit → FieldUnit) : (w.updUnit id g).cmdQueue = w.cmdQueue := rfl
@[simp] theorem Work.updUnit_orders (id : Nat) (g : FieldUnit → FieldUnit) : (w.updUnit id g).orders = w.orders := rfl
@[simp] theorem Work.updUnit_nextOrderRef (id : Nat) (g : FieldUnit → FieldUnit) : (w.updUnit id g).nextOrderRef = w.nextOrderRef := rfl
@[simp] theorem Work.updUnit_terminalSlots (id : Nat) (g : FieldUnit → FieldUnit) : (w.updUnit id g).terminalSlots = w.terminalSlots := rfl
@[simp] theorem Work.updUnit_calls (id : Nat) (g : FieldUnit → FieldUnit) : (w.updUnit id g).calls = w.calls := rfl
@[simp] theorem Work.updUnit_nextCallRef (id : Nat) (g : FieldUnit → FieldUnit) : (w.updUnit id g).nextCallRef = w.nextCallRef := rfl
@[simp] theorem Work.updUnit_closedCalls (id : Nat) (g : FieldUnit → FieldUnit) : (w.updUnit id g).closedCalls = w.closedCalls := rfl
@[simp] theorem Work.updUnit_outages (id : Nat) (g : FieldUnit → FieldUnit) : (w.updUnit id g).outages = w.outages := rfl
@[simp] theorem Work.updUnit_nextOutageRef (id : Nat) (g : FieldUnit → FieldUnit) : (w.updUnit id g).nextOutageRef = w.nextOutageRef := rfl
@[simp] theorem Work.updUnit_openedOutages (id : Nat) (g : FieldUnit → FieldUnit) : (w.updUnit id g).openedOutages = w.openedOutages := rfl
@[simp] theorem Work.updUnit_closedOutages (id : Nat) (g : FieldUnit → FieldUnit) : (w.updUnit id g).closedOutages = w.closedOutages := rfl
@[simp] theorem Work.updUnit_customersOff (id : Nat) (g : FieldUnit → FieldUnit) : (w.updUnit id g).customersOff = w.customersOff := rfl
@[simp] theorem Work.updUnit_awaitingRelight (id : Nat) (g : FieldUnit → FieldUnit) : (w.updUnit id g).awaitingRelight = w.awaitingRelight := rfl
@[simp] theorem Work.updUnit_out (id : Nat) (g : FieldUnit → FieldUnit) : (w.updUnit id g).out = w.out := rfl
@[simp] theorem Work.updOrder_orders (slot : Nat) (g : Order → Order) :
    (w.updOrder slot g).orders = w.orders.map (fun x => if x.slot == slot then g x else x) := rfl
@[simp] theorem Work.updOrder_now (slot : Nat) (g : Order → Order) : (w.updOrder slot g).now = w.now := rfl
@[simp] theorem Work.updOrder_model (slot : Nat) (g : Order → Order) : (w.updOrder slot g).model = w.model := rfl
@[simp] theorem Work.updOrder_timing (slot : Nat) (g : Order → Order) : (w.updOrder slot g).timing = w.timing := rfl
@[simp] theorem Work.updOrder_segments (slot : Nat) (g : Order → Order) : (w.updOrder slot g).segments = w.segments := rfl
@[simp] theorem Work.updOrder_valves (slot : Nat) (g : Order → Order) : (w.updOrder slot g).valves = w.valves := rfl
@[simp] theorem Work.updOrder_sources (slot : Nat) (g : Order → Order) : (w.updOrder slot g).sources = w.sources := rfl
@[simp] theorem Work.updOrder_units (slot : Nat) (g : Order → Order) : (w.updOrder slot g).units = w.units := rfl
@[simp] theorem Work.updOrder_channels (slot : Nat) (g : Order → Order) : (w.updOrder slot g).channels = w.channels := rfl
@[simp] theorem Work.updOrder_sweep (slot : Nat) (g : Order → Order) : (w.updOrder slot g).sweep = w.sweep := rfl
@[simp] theorem Work.updOrder_cmdQueue (slot : Nat) (g : Order → Order) : (w.updOrder slot g).cmdQueue = w.cmdQueue := rfl
@[simp] theorem Work.updOrder_nextOrderRef (slot : Nat) (g : Order → Order) : (w.updOrder slot g).nextOrderRef = w.nextOrderRef := rfl
@[simp] theorem Work.updOrder_terminalSlots (slot : Nat) (g : Order → Order) : (w.updOrder slot g).terminalSlots = w.terminalSlots := rfl
@[simp] theorem Work.updOrder_calls (slot : Nat) (g : Order → Order) : (w.updOrder slot g).calls = w.calls := rfl
@[simp] theorem Work.updOrder_nextCallRef (slot : Nat) (g : Order → Order) : (w.updOrder slot g).nextCallRef = w.nextCallRef := rfl
@[simp] theorem Work.updOrder_closedCalls (slot : Nat) (g : Order → Order) : (w.updOrder slot g).closedCalls = w.closedCalls := rfl
@[simp] theorem Work.updOrder_outages (slot : Nat) (g : Order → Order) : (w.updOrder slot g).outages = w.outages := rfl
@[simp] theorem Work.updOrder_nextOutageRef (slot : Nat) (g : Order → Order) : (w.updOrder slot g).nextOutageRef = w.nextOutageRef := rfl
@[simp] theorem Work.updOrder_openedOutages (slot : Nat) (g : Order → Order) : (w.updOrder slot g).openedOutages = w.openedOutages := rfl
@[simp] theorem Work.updOrder_closedOutages (slot : Nat) (g : Order → Order) : (w.updOrder slot g).closedOutages = w.closedOutages := rfl
@[simp] theorem Work.updOrder_customersOff (slot : Nat) (g : Order → Order) : (w.updOrder slot g).customersOff = w.customersOff := rfl
@[simp] theorem Work.updOrder_awaitingRelight (slot : Nat) (g : Order → Order) : (w.updOrder slot g).awaitingRelight = w.awaitingRelight := rfl
@[simp] theorem Work.updOrder_out (slot : Nat) (g : Order → Order) : (w.updOrder slot g).out = w.out := rfl
@[simp] theorem Work.updCall_calls (slot : Nat) (g : Call → Call) :
    (w.updCall slot g).calls = w.calls.map (fun x => if x.slot == slot then g x else x) := rfl
@[simp] theorem Work.updCall_now (slot : Nat) (g : Call → Call) : (w.updCall slot g).now = w.now := rfl
@[simp] theorem Work.updCall_model (slot : Nat) (g : Call → Call) : (w.updCall slot g).model = w.model := rfl
@[simp] theorem Work.updCall_timing (slot : Nat) (g : Call → Call) : (w.updCall slot g).timing = w.timing := rfl
@[simp] theorem Work.updCall_segments (slot : Nat) (g : Call → Call) : (w.updCall slot g).segments = w.segments := rfl
@[simp] theorem Work.updCall_valves (slot : Nat) (g : Call → Call) : (w.updCall slot g).valves = w.valves := rfl
@[simp] theorem Work.updCall_sources (slot : Nat) (g : Call → Call) : (w.updCall slot g).sources = w.sources := rfl
@[simp] theorem Work.updCall_units (slot : Nat) (g : Call → Call) : (w.updCall slot g).units = w.units := rfl
@[simp] theorem Work.updCall_channels (slot : Nat) (g : Call → Call) : (w.updCall slot g).channels = w.channels := rfl
@[simp] theorem Work.updCall_sweep (slot : Nat) (g : Call → Call) : (w.updCall slot g).sweep = w.sweep := rfl
@[simp] theorem Work.updCall_cmdQueue (slot : Nat) (g : Call → Call) : (w.updCall slot g).cmdQueue = w.cmdQueue := rfl
@[simp] theorem Work.updCall_orders (slot : Nat) (g : Call → Call) : (w.updCall slot g).orders = w.orders := rfl
@[simp] theorem Work.updCall_nextOrderRef (slot : Nat) (g : Call → Call) : (w.updCall slot g).nextOrderRef = w.nextOrderRef := rfl
@[simp] theorem Work.updCall_terminalSlots (slot : Nat) (g : Call → Call) : (w.updCall slot g).terminalSlots = w.terminalSlots := rfl
@[simp] theorem Work.updCall_nextCallRef (slot : Nat) (g : Call → Call) : (w.updCall slot g).nextCallRef = w.nextCallRef := rfl
@[simp] theorem Work.updCall_closedCalls (slot : Nat) (g : Call → Call) : (w.updCall slot g).closedCalls = w.closedCalls := rfl
@[simp] theorem Work.updCall_outages (slot : Nat) (g : Call → Call) : (w.updCall slot g).outages = w.outages := rfl
@[simp] theorem Work.updCall_nextOutageRef (slot : Nat) (g : Call → Call) : (w.updCall slot g).nextOutageRef = w.nextOutageRef := rfl
@[simp] theorem Work.updCall_openedOutages (slot : Nat) (g : Call → Call) : (w.updCall slot g).openedOutages = w.openedOutages := rfl
@[simp] theorem Work.updCall_closedOutages (slot : Nat) (g : Call → Call) : (w.updCall slot g).closedOutages = w.closedOutages := rfl
@[simp] theorem Work.updCall_customersOff (slot : Nat) (g : Call → Call) : (w.updCall slot g).customersOff = w.customersOff := rfl
@[simp] theorem Work.updCall_awaitingRelight (slot : Nat) (g : Call → Call) : (w.updCall slot g).awaitingRelight = w.awaitingRelight := rfl
@[simp] theorem Work.updCall_out (slot : Nat) (g : Call → Call) : (w.updCall slot g).out = w.out := rfl
@[simp] theorem Work.updOutage_outages (id : Nat) (g : Outage → Outage) :
    (w.updOutage id g).outages = w.outages.map (fun x => if x.id == id then g x else x) := rfl
@[simp] theorem Work.updOutage_now (id : Nat) (g : Outage → Outage) : (w.updOutage id g).now = w.now := rfl
@[simp] theorem Work.updOutage_model (id : Nat) (g : Outage → Outage) : (w.updOutage id g).model = w.model := rfl
@[simp] theorem Work.updOutage_timing (id : Nat) (g : Outage → Outage) : (w.updOutage id g).timing = w.timing := rfl
@[simp] theorem Work.updOutage_segments (id : Nat) (g : Outage → Outage) : (w.updOutage id g).segments = w.segments := rfl
@[simp] theorem Work.updOutage_valves (id : Nat) (g : Outage → Outage) : (w.updOutage id g).valves = w.valves := rfl
@[simp] theorem Work.updOutage_sources (id : Nat) (g : Outage → Outage) : (w.updOutage id g).sources = w.sources := rfl
@[simp] theorem Work.updOutage_units (id : Nat) (g : Outage → Outage) : (w.updOutage id g).units = w.units := rfl
@[simp] theorem Work.updOutage_channels (id : Nat) (g : Outage → Outage) : (w.updOutage id g).channels = w.channels := rfl
@[simp] theorem Work.updOutage_sweep (id : Nat) (g : Outage → Outage) : (w.updOutage id g).sweep = w.sweep := rfl
@[simp] theorem Work.updOutage_cmdQueue (id : Nat) (g : Outage → Outage) : (w.updOutage id g).cmdQueue = w.cmdQueue := rfl
@[simp] theorem Work.updOutage_orders (id : Nat) (g : Outage → Outage) : (w.updOutage id g).orders = w.orders := rfl
@[simp] theorem Work.updOutage_nextOrderRef (id : Nat) (g : Outage → Outage) : (w.updOutage id g).nextOrderRef = w.nextOrderRef := rfl
@[simp] theorem Work.updOutage_terminalSlots (id : Nat) (g : Outage → Outage) : (w.updOutage id g).terminalSlots = w.terminalSlots := rfl
@[simp] theorem Work.updOutage_calls (id : Nat) (g : Outage → Outage) : (w.updOutage id g).calls = w.calls := rfl
@[simp] theorem Work.updOutage_nextCallRef (id : Nat) (g : Outage → Outage) : (w.updOutage id g).nextCallRef = w.nextCallRef := rfl
@[simp] theorem Work.updOutage_closedCalls (id : Nat) (g : Outage → Outage) : (w.updOutage id g).closedCalls = w.closedCalls := rfl
@[simp] theorem Work.updOutage_nextOutageRef (id : Nat) (g : Outage → Outage) : (w.updOutage id g).nextOutageRef = w.nextOutageRef := rfl
@[simp] theorem Work.updOutage_openedOutages (id : Nat) (g : Outage → Outage) : (w.updOutage id g).openedOutages = w.openedOutages := rfl
@[simp] theorem Work.updOutage_closedOutages (id : Nat) (g : Outage → Outage) : (w.updOutage id g).closedOutages = w.closedOutages := rfl
@[simp] theorem Work.updOutage_customersOff (id : Nat) (g : Outage → Outage) : (w.updOutage id g).customersOff = w.customersOff := rfl
@[simp] theorem Work.updOutage_awaitingRelight (id : Nat) (g : Outage → Outage) : (w.updOutage id g).awaitingRelight = w.awaitingRelight := rfl
@[simp] theorem Work.updOutage_out (id : Nat) (g : Outage → Outage) : (w.updOutage id g).out = w.out := rfl
@[simp] theorem Work.updChannel_channels (u i : Nat) (g : Channel → Channel) :
    (w.updChannel u i g).channels =
      w.channels.map (fun x => if x.unit == u && x.index == i then g x else x) := rfl
@[simp] theorem Work.updChannel_now (u i : Nat) (g : Channel → Channel) : (w.updChannel u i g).now = w.now := rfl
@[simp] theorem Work.updChannel_model (u i : Nat) (g : Channel → Channel) : (w.updChannel u i g).model = w.model := rfl
@[simp] theorem Work.updChannel_timing (u i : Nat) (g : Channel → Channel) : (w.updChannel u i g).timing = w.timing := rfl
@[simp] theorem Work.updChannel_segments (u i : Nat) (g : Channel → Channel) : (w.updChannel u i g).segments = w.segments := rfl
@[simp] theorem Work.updChannel_valves (u i : Nat) (g : Channel → Channel) : (w.updChannel u i g).valves = w.valves := rfl
@[simp] theorem Work.updChannel_sources (u i : Nat) (g : Channel → Channel) : (w.updChannel u i g).sources = w.sources := rfl
@[simp] theorem Work.updChannel_units (u i : Nat) (g : Channel → Channel) : (w.updChannel u i g).units = w.units := rfl
@[simp] theorem Work.updChannel_sweep (u i : Nat) (g : Channel → Channel) : (w.updChannel u i g).sweep = w.sweep := rfl
@[simp] theorem Work.updChannel_cmdQueue (u i : Nat) (g : Channel → Channel) : (w.updChannel u i g).cmdQueue = w.cmdQueue := rfl
@[simp] theorem Work.updChannel_orders (u i : Nat) (g : Channel → Channel) : (w.updChannel u i g).orders = w.orders := rfl
@[simp] theorem Work.updChannel_nextOrderRef (u i : Nat) (g : Channel → Channel) : (w.updChannel u i g).nextOrderRef = w.nextOrderRef := rfl
@[simp] theorem Work.updChannel_terminalSlots (u i : Nat) (g : Channel → Channel) : (w.updChannel u i g).terminalSlots = w.terminalSlots := rfl
@[simp] theorem Work.updChannel_calls (u i : Nat) (g : Channel → Channel) : (w.updChannel u i g).calls = w.calls := rfl
@[simp] theorem Work.updChannel_nextCallRef (u i : Nat) (g : Channel → Channel) : (w.updChannel u i g).nextCallRef = w.nextCallRef := rfl
@[simp] theorem Work.updChannel_closedCalls (u i : Nat) (g : Channel → Channel) : (w.updChannel u i g).closedCalls = w.closedCalls := rfl
@[simp] theorem Work.updChannel_outages (u i : Nat) (g : Channel → Channel) : (w.updChannel u i g).outages = w.outages := rfl
@[simp] theorem Work.updChannel_nextOutageRef (u i : Nat) (g : Channel → Channel) : (w.updChannel u i g).nextOutageRef = w.nextOutageRef := rfl
@[simp] theorem Work.updChannel_openedOutages (u i : Nat) (g : Channel → Channel) : (w.updChannel u i g).openedOutages = w.openedOutages := rfl
@[simp] theorem Work.updChannel_closedOutages (u i : Nat) (g : Channel → Channel) : (w.updChannel u i g).closedOutages = w.closedOutages := rfl
@[simp] theorem Work.updChannel_customersOff (u i : Nat) (g : Channel → Channel) : (w.updChannel u i g).customersOff = w.customersOff := rfl
@[simp] theorem Work.updChannel_awaitingRelight (u i : Nat) (g : Channel → Channel) : (w.updChannel u i g).awaitingRelight = w.awaitingRelight := rfl
@[simp] theorem Work.updChannel_out (u i : Nat) (g : Channel → Channel) : (w.updChannel u i g).out = w.out := rfl
@[simp] theorem Work.setActualPending_sweep :
    w.setActualPending.sweep = { w.sweep with actualPending := true } := rfl
@[simp] theorem Work.setActualPending_now : w.setActualPending.now = w.now := rfl
@[simp] theorem Work.setActualPending_model : w.setActualPending.model = w.model := rfl
@[simp] theorem Work.setActualPending_timing : w.setActualPending.timing = w.timing := rfl
@[simp] theorem Work.setActualPending_segments : w.setActualPending.segments = w.segments := rfl
@[simp] theorem Work.setActualPending_valves : w.setActualPending.valves = w.valves := rfl
@[simp] theorem Work.setActualPending_sources : w.setActualPending.sources = w.sources := rfl
@[simp] theorem Work.setActualPending_units : w.setActualPending.units = w.units := rfl
@[simp] theorem Work.setActualPending_channels : w.setActualPending.channels = w.channels := rfl
@[simp] theorem Work.setActualPending_cmdQueue : w.setActualPending.cmdQueue = w.cmdQueue := rfl
@[simp] theorem Work.setActualPending_orders : w.setActualPending.orders = w.orders := rfl
@[simp] theorem Work.setActualPending_nextOrderRef : w.setActualPending.nextOrderRef = w.nextOrderRef := rfl
@[simp] theorem Work.setActualPending_terminalSlots : w.setActualPending.terminalSlots = w.terminalSlots := rfl
@[simp] theorem Work.setActualPending_calls : w.setActualPending.calls = w.calls := rfl
@[simp] theorem Work.setActualPending_nextCallRef : w.setActualPending.nextCallRef = w.nextCallRef := rfl
@[simp] theorem Work.setActualPending_closedCalls : w.setActualPending.closedCalls = w.closedCalls := rfl
@[simp] theorem Work.setActualPending_outages : w.setActualPending.outages = w.outages := rfl
@[simp] theorem Work.setActualPending_nextOutageRef : w.setActualPending.nextOutageRef = w.nextOutageRef := rfl
@[simp] theorem Work.setActualPending_openedOutages : w.setActualPending.openedOutages = w.openedOutages := rfl
@[simp] theorem Work.setActualPending_closedOutages : w.setActualPending.closedOutages = w.closedOutages := rfl
@[simp] theorem Work.setActualPending_customersOff : w.setActualPending.customersOff = w.customersOff := rfl
@[simp] theorem Work.setActualPending_awaitingRelight : w.setActualPending.awaitingRelight = w.awaitingRelight := rfl
@[simp] theorem Work.setActualPending_out : w.setActualPending.out = w.out := rfl
@[simp] theorem Work.joinRequest_sweep (r : PlannedRequest) :
    (w.joinRequest r).sweep = { w.sweep with requests := w.sweep.requests ++ [r] } := rfl
@[simp] theorem Work.joinRequest_now (r : PlannedRequest) : (w.joinRequest r).now = w.now := rfl
@[simp] theorem Work.joinRequest_model (r : PlannedRequest) : (w.joinRequest r).model = w.model := rfl
@[simp] theorem Work.joinRequest_timing (r : PlannedRequest) : (w.joinRequest r).timing = w.timing := rfl
@[simp] theorem Work.joinRequest_segments (r : PlannedRequest) : (w.joinRequest r).segments = w.segments := rfl
@[simp] theorem Work.joinRequest_valves (r : PlannedRequest) : (w.joinRequest r).valves = w.valves := rfl
@[simp] theorem Work.joinRequest_sources (r : PlannedRequest) : (w.joinRequest r).sources = w.sources := rfl
@[simp] theorem Work.joinRequest_units (r : PlannedRequest) : (w.joinRequest r).units = w.units := rfl
@[simp] theorem Work.joinRequest_channels (r : PlannedRequest) : (w.joinRequest r).channels = w.channels := rfl
@[simp] theorem Work.joinRequest_cmdQueue (r : PlannedRequest) : (w.joinRequest r).cmdQueue = w.cmdQueue := rfl
@[simp] theorem Work.joinRequest_orders (r : PlannedRequest) : (w.joinRequest r).orders = w.orders := rfl
@[simp] theorem Work.joinRequest_nextOrderRef (r : PlannedRequest) : (w.joinRequest r).nextOrderRef = w.nextOrderRef := rfl
@[simp] theorem Work.joinRequest_terminalSlots (r : PlannedRequest) : (w.joinRequest r).terminalSlots = w.terminalSlots := rfl
@[simp] theorem Work.joinRequest_calls (r : PlannedRequest) : (w.joinRequest r).calls = w.calls := rfl
@[simp] theorem Work.joinRequest_nextCallRef (r : PlannedRequest) : (w.joinRequest r).nextCallRef = w.nextCallRef := rfl
@[simp] theorem Work.joinRequest_closedCalls (r : PlannedRequest) : (w.joinRequest r).closedCalls = w.closedCalls := rfl
@[simp] theorem Work.joinRequest_outages (r : PlannedRequest) : (w.joinRequest r).outages = w.outages := rfl
@[simp] theorem Work.joinRequest_nextOutageRef (r : PlannedRequest) : (w.joinRequest r).nextOutageRef = w.nextOutageRef := rfl
@[simp] theorem Work.joinRequest_openedOutages (r : PlannedRequest) : (w.joinRequest r).openedOutages = w.openedOutages := rfl
@[simp] theorem Work.joinRequest_closedOutages (r : PlannedRequest) : (w.joinRequest r).closedOutages = w.closedOutages := rfl
@[simp] theorem Work.joinRequest_customersOff (r : PlannedRequest) : (w.joinRequest r).customersOff = w.customersOff := rfl
@[simp] theorem Work.joinRequest_awaitingRelight (r : PlannedRequest) : (w.joinRequest r).awaitingRelight = w.awaitingRelight := rfl
@[simp] theorem Work.joinRequest_out (r : PlannedRequest) : (w.joinRequest r).out = w.out := rfl

end

/-! ### Updates of the state -/

section
variable (s : State)

@[simp] theorem State.setPort_toPicture (p : Port) (b : PortBlock) : (s.setPort p b).toPicture = s.toPicture := by
  cases p <;> rfl
@[simp] theorem State.setPort_grants (p : Port) (b : PortBlock) : (s.setPort p b).grants = s.grants := by
  cases p <;> rfl
@[simp] theorem State.setPort_presence (p : Port) (b : PortBlock) : (s.setPort p b).presence = s.presence := by
  cases p <;> rfl
@[simp] theorem State.setPort_noticesS (p : Port) (b : PortBlock) : (s.setPort p b).noticesS = s.noticesS := by
  cases p <;> rfl
@[simp] theorem State.setPort_noticesD (p : Port) (b : PortBlock) : (s.setPort p b).noticesD = s.noticesD := by
  cases p <;> rfl
@[simp] theorem State.setPort_flow (p : Port) (b : PortBlock) : (s.setPort p b).flow = s.flow := by
  cases p <;> rfl
@[simp] theorem State.setPort_attnS (p : Port) (b : PortBlock) : (s.setPort p b).attnS = s.attnS := by
  cases p <;> rfl
@[simp] theorem State.setPort_attnD (p : Port) (b : PortBlock) : (s.setPort p b).attnD = s.attnD := by
  cases p <;> rfl
@[simp] theorem State.setPort_attnF (p : Port) (b : PortBlock) : (s.setPort p b).attnF = s.attnF := by
  cases p <;> rfl
@[simp] theorem State.setPort_store (p : Port) (b : PortBlock) : (s.setPort p b).store = s.store := by
  cases p <;> rfl
@[simp] theorem State.setPort_flash (p : Port) (b : PortBlock) : (s.setPort p b).flash = s.flash := by
  cases p <;> rfl
@[simp] theorem State.setPort_freeDraws (p : Port) (b : PortBlock) : (s.setPort p b).freeDraws = s.freeDraws := by
  cases p <;> rfl
@[simp] theorem State.setPort_pending (p : Port) (b : PortBlock) : (s.setPort p b).pending = s.pending := by
  cases p <;> rfl
@[simp] theorem State.setPort_port (p : Port) (b : PortBlock) : (s.setPort p b).port p = b := by
  cases p <;> rfl
theorem State.setPort_port_ne {p q : Port} (b : PortBlock) (h : q ≠ p) :
    (s.setPort p b).port q = s.port q := by
  cases p <;> cases q <;> first | rfl | exact absurd rfl h
@[simp] theorem State.updateFlow_toPicture (p : Port) : (s.updateFlow p).toPicture = s.toPicture := by
  cases p <;> rfl
@[simp] theorem State.updateFlow_grants (p : Port) : (s.updateFlow p).grants = s.grants := by
  cases p <;> rfl
@[simp] theorem State.updateFlow_presence (p : Port) : (s.updateFlow p).presence = s.presence := by
  cases p <;> rfl
@[simp] theorem State.updateFlow_noticesS (p : Port) : (s.updateFlow p).noticesS = s.noticesS := by
  cases p <;> rfl
@[simp] theorem State.updateFlow_noticesD (p : Port) : (s.updateFlow p).noticesD = s.noticesD := by
  cases p <;> rfl
@[simp] theorem State.updateFlow_attnS (p : Port) : (s.updateFlow p).attnS = s.attnS := by
  cases p <;> rfl
@[simp] theorem State.updateFlow_attnD (p : Port) : (s.updateFlow p).attnD = s.attnD := by
  cases p <;> rfl
@[simp] theorem State.updateFlow_attnF (p : Port) : (s.updateFlow p).attnF = s.attnF := by
  cases p <;> rfl
@[simp] theorem State.updateFlow_store (p : Port) : (s.updateFlow p).store = s.store := by
  cases p <;> rfl
@[simp] theorem State.updateFlow_flash (p : Port) : (s.updateFlow p).flash = s.flash := by
  cases p <;> rfl
@[simp] theorem State.updateFlow_freeDraws (p : Port) : (s.updateFlow p).freeDraws = s.freeDraws := by
  cases p <;> rfl
@[simp] theorem State.updateFlow_pending (p : Port) : (s.updateFlow p).pending = s.pending := by
  cases p <;> rfl
@[simp] theorem State.updateFlow_port (p q : Port) : (s.updateFlow p).port q = s.port q := by
  cases p <;> cases q <;> rfl
@[simp] theorem State.settle_toPicture : s.settle.toPicture = s.toPicture := rfl
@[simp] theorem State.settle_grants : s.settle.grants = s.grants := rfl
@[simp] theorem State.settle_presence : s.settle.presence = s.presence := rfl
@[simp] theorem State.settle_noticesS : s.settle.noticesS = s.noticesS := rfl
@[simp] theorem State.settle_noticesD : s.settle.noticesD = s.noticesD := rfl
@[simp] theorem State.settle_flow : s.settle.flow = s.flow := rfl
@[simp] theorem State.settle_store : s.settle.store = s.store := rfl
@[simp] theorem State.settle_flash : s.settle.flash = s.flash := rfl
@[simp] theorem State.settle_freeDraws : s.settle.freeDraws = s.freeDraws := rfl
@[simp] theorem State.settle_pending : s.settle.pending = s.pending := rfl
@[simp] theorem State.settle_port (p : Port) : s.settle.port p = s.port p := by
  cases p <;> rfl
@[simp] theorem State.placeReply_toPicture (p : Port) (k t : Byte) (a : Answer) :
    (s.placeReply p k t a).toPicture = s.toPicture := by
  cases p <;> rfl
@[simp] theorem State.placeReply_grants (p : Port) (k t : Byte) (a : Answer) :
    (s.placeReply p k t a).grants = s.grants := by
  cases p <;> rfl
@[simp] theorem State.placeReply_presence (p : Port) (k t : Byte) (a : Answer) :
    (s.placeReply p k t a).presence = s.presence := by
  cases p <;> rfl
@[simp] theorem State.placeReply_noticesS (p : Port) (k t : Byte) (a : Answer) :
    (s.placeReply p k t a).noticesS = s.noticesS := by
  cases p <;> rfl
@[simp] theorem State.placeReply_noticesD (p : Port) (k t : Byte) (a : Answer) :
    (s.placeReply p k t a).noticesD = s.noticesD := by
  cases p <;> rfl
@[simp] theorem State.placeReply_flow (p : Port) (k t : Byte) (a : Answer) :
    (s.placeReply p k t a).flow = s.flow := by
  cases p <;> rfl
@[simp] theorem State.placeReply_attnS (p : Port) (k t : Byte) (a : Answer) :
    (s.placeReply p k t a).attnS = s.attnS := by
  cases p <;> rfl
@[simp] theorem State.placeReply_attnD (p : Port) (k t : Byte) (a : Answer) :
    (s.placeReply p k t a).attnD = s.attnD := by
  cases p <;> rfl
@[simp] theorem State.placeReply_attnF (p : Port) (k t : Byte) (a : Answer) :
    (s.placeReply p k t a).attnF = s.attnF := by
  cases p <;> rfl
@[simp] theorem State.placeReply_store (p : Port) (k t : Byte) (a : Answer) :
    (s.placeReply p k t a).store = s.store := by
  cases p <;> rfl
@[simp] theorem State.placeReply_flash (p : Port) (k t : Byte) (a : Answer) :
    (s.placeReply p k t a).flash = s.flash := by
  cases p <;> rfl
@[simp] theorem State.placeReply_freeDraws (p : Port) (k t : Byte) (a : Answer) :
    (s.placeReply p k t a).freeDraws = s.freeDraws := by
  cases p <;> rfl
@[simp] theorem State.placeReply_pending (p : Port) (k t : Byte) (a : Answer) :
    (s.placeReply p k t a).pending = s.pending := by
  cases p <;> rfl
@[simp] theorem State.placeReply_port (p : Port) (k t : Byte) (a : Answer) :
    (s.placeReply p k t a).port p =
      { s.port p with replies := (s.port p).replies ++ [replyFrame k t a.1 a.2] } := by
  cases p <;> rfl
theorem State.placeReply_port_ne {p q : Port} (k t : Byte) (a : Answer) (h : q ≠ p) :
    (s.placeReply p k t a).port q = s.port q := State.setPort_port_ne s _ h
@[simp] theorem State.route_toPicture (rs : List Raise) : (s.route rs).toPicture = s.toPicture := rfl
@[simp] theorem State.route_grants (rs : List Raise) : (s.route rs).grants = s.grants := rfl
@[simp] theorem State.route_presence (rs : List Raise) : (s.route rs).presence = s.presence := rfl
@[simp] theorem State.route_flow (rs : List Raise) : (s.route rs).flow = s.flow := rfl
@[simp] theorem State.route_attnS (rs : List Raise) : (s.route rs).attnS = s.attnS := rfl
@[simp] theorem State.route_attnD (rs : List Raise) : (s.route rs).attnD = s.attnD := rfl
@[simp] theorem State.route_attnF (rs : List Raise) : (s.route rs).attnF = s.attnF := rfl
@[simp] theorem State.route_store (rs : List Raise) : (s.route rs).store = s.store := rfl
@[simp] theorem State.route_flash (rs : List Raise) : (s.route rs).flash = s.flash := rfl
@[simp] theorem State.route_freeDraws (rs : List Raise) : (s.route rs).freeDraws = s.freeDraws := rfl
@[simp] theorem State.route_pending (rs : List Raise) : (s.route rs).pending = s.pending := rfl
@[simp] theorem State.route_port (rs : List Raise) (p : Port) : (s.route rs).port p = s.port p := by
  cases p <;> rfl
@[simp] theorem State.absorb_grants (w : Work) : (s.absorb w).grants = s.grants := rfl
@[simp] theorem State.absorb_presence (w : Work) : (s.absorb w).presence = s.presence := rfl
@[simp] theorem State.absorb_flow (w : Work) : (s.absorb w).flow = s.flow := rfl
@[simp] theorem State.absorb_attnS (w : Work) : (s.absorb w).attnS = s.attnS := rfl
@[simp] theorem State.absorb_attnD (w : Work) : (s.absorb w).attnD = s.attnD := rfl
@[simp] theorem State.absorb_attnF (w : Work) : (s.absorb w).attnF = s.attnF := rfl
@[simp] theorem State.absorb_store (w : Work) : (s.absorb w).store = s.store := rfl
@[simp] theorem State.absorb_flash (w : Work) : (s.absorb w).flash = s.flash := rfl
@[simp] theorem State.absorb_freeDraws (w : Work) : (s.absorb w).freeDraws = s.freeDraws := rfl
@[simp] theorem State.absorb_pending (w : Work) : (s.absorb w).pending = s.pending := rfl
@[simp] theorem State.absorb_port (w : Work) (p : Port) : (s.absorb w).port p = s.port p := by
  cases p <;> rfl
@[simp] theorem State.absorb_toPicture (w : Work) :
    (s.absorb w).toPicture = ((w.endSuppression s.toPicture).wake s.toPicture).toPicture := rfl
@[simp] theorem State.work_toPicture : s.work.toPicture = s.toPicture := rfl
@[simp] theorem State.work_out : s.work.out = [] := rfl
@[simp] theorem State.complete_toPicture (p : Port) (a : Answer) : (s.complete p a).toPicture = s.toPicture := by
  unfold State.complete
  split
  · rfl
  · simp only; split <;> simp
@[simp] theorem State.complete_grants (p : Port) (a : Answer) : (s.complete p a).grants = s.grants := by
  unfold State.complete
  split
  · rfl
  · simp only; split <;> simp
@[simp] theorem State.complete_presence (p : Port) (a : Answer) : (s.complete p a).presence = s.presence := by
  unfold State.complete
  split
  · rfl
  · simp only; split <;> simp
@[simp] theorem State.complete_noticesS (p : Port) (a : Answer) : (s.complete p a).noticesS = s.noticesS := by
  unfold State.complete
  split
  · rfl
  · simp only; split <;> simp
@[simp] theorem State.complete_noticesD (p : Port) (a : Answer) : (s.complete p a).noticesD = s.noticesD := by
  unfold State.complete
  split
  · rfl
  · simp only; split <;> simp
@[simp] theorem State.complete_flow (p : Port) (a : Answer) : (s.complete p a).flow = s.flow := by
  unfold State.complete
  split
  · rfl
  · simp only; split <;> simp
@[simp] theorem State.complete_attnS (p : Port) (a : Answer) : (s.complete p a).attnS = s.attnS := by
  unfold State.complete
  split
  · rfl
  · simp only; split <;> simp
@[simp] theorem State.complete_attnD (p : Port) (a : Answer) : (s.complete p a).attnD = s.attnD := by
  unfold State.complete
  split
  · rfl
  · simp only; split <;> simp
@[simp] theorem State.complete_attnF (p : Port) (a : Answer) : (s.complete p a).attnF = s.attnF := by
  unfold State.complete
  split
  · rfl
  · simp only; split <;> simp
@[simp] theorem State.complete_store (p : Port) (a : Answer) : (s.complete p a).store = s.store := by
  unfold State.complete
  split
  · rfl
  · simp only; split <;> simp
@[simp] theorem State.complete_flash (p : Port) (a : Answer) : (s.complete p a).flash = s.flash := by
  unfold State.complete
  split
  · rfl
  · simp only; split <;> simp
@[simp] theorem State.complete_freeDraws (p : Port) (a : Answer) : (s.complete p a).freeDraws = s.freeDraws := by
  unfold State.complete
  split
  · rfl
  · simp only; split <;> simp
@[simp] theorem State.complete_pending (p : Port) (a : Answer) : (s.complete p a).pending = s.pending := by
  unfold State.complete
  split
  · rfl
  · simp only; split <;> simp
theorem State.complete_port_ne {p q : Port} (a : Answer) (h : q ≠ p) : (s.complete p a).port q = s.port q := by
  unfold State.complete
  split
  · rfl
  · simp only; split <;> simp [State.placeReply_port_ne, State.setPort_port_ne, h]
@[simp] theorem State.endTransfer_toPicture (p : Port) : (s.endTransfer p).toPicture = s.toPicture := by
  cases p <;> rfl
@[simp] theorem State.endTransfer_grants (p : Port) : (s.endTransfer p).grants = s.grants := by
  cases p <;> rfl
@[simp] theorem State.endTransfer_presence (p : Port) : (s.endTransfer p).presence = s.presence := by
  cases p <;> rfl
@[simp] theorem State.endTransfer_noticesS (p : Port) : (s.endTransfer p).noticesS = s.noticesS := by
  cases p <;> rfl
@[simp] theorem State.endTransfer_noticesD (p : Port) : (s.endTransfer p).noticesD = s.noticesD := by
  cases p <;> rfl
@[simp] theorem State.endTransfer_flow (p : Port) : (s.endTransfer p).flow = s.flow := by
  cases p <;> rfl
@[simp] theorem State.endTransfer_attnS (p : Port) : (s.endTransfer p).attnS = s.attnS := by
  cases p <;> rfl
@[simp] theorem State.endTransfer_attnD (p : Port) : (s.endTransfer p).attnD = s.attnD := by
  cases p <;> rfl
@[simp] theorem State.endTransfer_attnF (p : Port) : (s.endTransfer p).attnF = s.attnF := by
  cases p <;> rfl
@[simp] theorem State.endTransfer_store (p : Port) : (s.endTransfer p).store = s.store := by
  cases p <;> rfl
@[simp] theorem State.endTransfer_flash (p : Port) : (s.endTransfer p).flash = s.flash := by
  cases p <;> rfl
@[simp] theorem State.endTransfer_freeDraws (p : Port) : (s.endTransfer p).freeDraws = s.freeDraws := by
  cases p <;> rfl
@[simp] theorem State.endTransfer_pending (p : Port) : (s.endTransfer p).pending = s.pending := by
  cases p <;> rfl
@[simp] theorem State.discardFrame_toPicture (p : Port) : (s.discardFrame p).toPicture = s.toPicture := by
  cases p <;> rfl
@[simp] theorem State.discardFrame_grants (p : Port) : (s.discardFrame p).grants = s.grants := by
  cases p <;> rfl
@[simp] theorem State.discardFrame_presence (p : Port) : (s.discardFrame p).presence = s.presence := by
  cases p <;> rfl
@[simp] theorem State.discardFrame_noticesS (p : Port) : (s.discardFrame p).noticesS = s.noticesS := by
  cases p <;> rfl
@[simp] theorem State.discardFrame_noticesD (p : Port) : (s.discardFrame p).noticesD = s.noticesD := by
  cases p <;> rfl
@[simp] theorem State.discardFrame_flow (p : Port) : (s.discardFrame p).flow = s.flow := by
  cases p <;> rfl
@[simp] theorem State.discardFrame_attnS (p : Port) : (s.discardFrame p).attnS = s.attnS := by
  cases p <;> rfl
@[simp] theorem State.discardFrame_attnD (p : Port) : (s.discardFrame p).attnD = s.attnD := by
  cases p <;> rfl
@[simp] theorem State.discardFrame_attnF (p : Port) : (s.discardFrame p).attnF = s.attnF := by
  cases p <;> rfl
@[simp] theorem State.discardFrame_store (p : Port) : (s.discardFrame p).store = s.store := by
  cases p <;> rfl
@[simp] theorem State.discardFrame_flash (p : Port) : (s.discardFrame p).flash = s.flash := by
  cases p <;> rfl
@[simp] theorem State.discardFrame_freeDraws (p : Port) : (s.discardFrame p).freeDraws = s.freeDraws := by
  cases p <;> rfl
@[simp] theorem State.discardFrame_pending (p : Port) : (s.discardFrame p).pending = s.pending := by
  cases p <;> rfl

end

end Sys2Proof.Machine
end

