-- ==== Sys2Proof/Laws/Views.lean ====
section
/-! SUPPORT. What the operations of each block leave alone, said once: a view blanks the parts of the picture that a block
writes, and each operation of the block leaves the view as it was. A field outside the blanked parts then follows by
congrArg. -/

namespace Sys2Proof.Machine

/-- The picture without what the valve block and the order engine write: positions and commands, orders, holding
orders, and the actual-pending flag. -/
def Work.orderView (w : Work) : Picture :=
  { w.toPicture with
    valves := [], cmdQueue := [], orders := [], terminalSlots := []
    segments := w.segments.map (fun g => { g with holders := [] })
    sweep := { w.sweep with actualPending := false } }

/-- The picture without what the call register writes as well: calls, their order of closing, and the counts. -/
def Work.callView (w : Work) : Picture :=
  { w.orderView with
    calls := [], nextCallRef := 0, closedCalls := []
    segments := w.segments.map (fun g => { g with holders := [], unsafeA := 0 }) }

/-- The picture without what the pressure monitor writes as well: channels, units, summaries; and sources, which a
trip changes. -/
def Work.pressureView (w : Work) : Picture :=
  { w.callView with
    channels := [], units := [], sources := []
    segments := w.segments.map (fun g =>
      { g with holders := [], unsafeA := 0, summary := .noChannel, falling := false }) }

theorem List.map_if_eq {α β : Type} (l : List α) (c : α → Bool) (g : α → α) (f : α → β)
    (h : ∀ x, f (g x) = f x) : (l.map (fun x => if c x then g x else x)).map f = l.map f := by
  rw [List.map_map]
  apply List.map_congr_left
  intro x _
  simp only [Function.comp_apply]
  split
  · exact h x
  · rfl

/-- What every round of a forEach leaves, the whole leaves. -/
theorem Work.forEach_keeps {α : Type} (f : Work → α) (g : Nat → Work → Work)
    (h : ∀ id w, f (g id w) = f w) (ids : List Nat) (w : Work) : f (Work.forEach ids g w) = f w := by
  induction ids generalizing w with
  | nil => rfl
  | cons i is ih => exact (ih (g i w)).trans (h i w)

theorem Work.callView_of_orderView {w w' : Work} (h : w'.orderView = w.orderView) :
    w'.callView = w.callView := by
  have hs := congrArg Picture.segments h
  simp only [Work.orderView] at hs
  have hs' := congrArg (List.map (fun g : Segment => { g with holders := [], unsafeA := 0 })) hs
  simp only [List.map_map, Function.comp_def] at hs'
  simp only [Work.callView, h, hs']

theorem Work.pressureView_of_callView {w w' : Work} (h : w'.callView = w.callView) :
    w'.pressureView = w.pressureView := by
  have hs := congrArg Picture.segments h
  simp only [Work.callView] at hs
  have hs' := congrArg (List.map (fun g : Segment =>
    { g with holders := [], unsafeA := 0, summary := .noChannel, falling := false })) hs
  simp only [List.map_map, Function.comp_def] at hs'
  simp only [Work.pressureView, h, hs']

/-! ### The valve block -/

section
variable (w : Work)

@[simp] theorem Work.raise_orderView (k : NoticeKind) (n : Nat) (d : Option Detail) :
    (w.raise k n d).orderView = w.orderView := rfl
@[simp] theorem Work.updValve_orderView (id : Nat) (g : Valve → Valve) :
    (w.updValve id g).orderView = w.orderView := rfl
@[simp] theorem Work.updOrder_orderView (k : Nat) (g : Order → Order) :
    (w.updOrder k g).orderView = w.orderView := rfl
@[simp] theorem Work.setActualPending_orderView : w.setActualPending.orderView = w.orderView := rfl
@[simp] theorem Work.withQueue_orderView (q : List QueueEntry) :
    ({ w with cmdQueue := q } : Work).orderView = w.orderView := rfl

@[simp] theorem Work.setPosition_orderView (vid : Nat) (q : Position) :
    (w.setPosition vid q).orderView = w.orderView := by
  unfold Work.setPosition
  split
  · rfl
  · split
    · rfl
    · simp only; split <;> rfl

@[simp] theorem Work.joinQueue_orderView (vid : Nat) (a : Action) :
    (w.joinQueue vid a).orderView = w.orderView := by
  unfold Work.joinQueue; split <;> rfl

@[simp] theorem Work.replaceAction_orderView (vid : Nat) (a : Action) :
    (w.replaceAction vid a).orderView = w.orderView := rfl

@[simp] theorem Work.dropCommand_orderView (vid : Nat) :
    (w.dropCommand vid).orderView = w.orderView := rfl

@[simp] theorem Work.movePending_orderView (vid : Nat) :
    (Work.movePending vid w).orderView = w.orderView := by
  unfold Work.movePending
  split
  · rfl
  · split
    · rfl
    · split <;> rfl

@[simp] theorem Work.fillQueue_orderView : w.fillQueue.orderView = w.orderView :=
  Work.forEach_keeps Work.orderView _ (fun i w => Work.movePending_orderView w i) _ _

@[simp] theorem Work.returnToPrior_orderView (vid : Nat) (q : Position) :
    (w.returnToPrior vid q).orderView = w.orderView := by
  simp [Work.returnToPrior]

@[simp] theorem Work.takeCommand_orderView (v : Valve) (a : Action) :
    (w.takeCommand v a).2.orderView = w.orderView := by
  unfold Work.takeCommand
  split
  · split <;> simp
  · split <;> simp
  · split <;> simp

@[simp] theorem Work.command_orderView (v : Valve) (a : Action) :
    (w.command v a).2.orderView = w.orderView := by
  unfold Work.command; split <;> simp

@[simp] theorem Work.instruct_orderView (v : Valve) (a : Action) :
    (w.instruct v a).2.orderView = w.orderView := by
  unfold Work.instruct
  split
  · rfl
  · split <;> simp

@[simp] theorem Work.ask_orderView (vid : Nat) (a : Action) :
    (w.ask vid a).2.orderView = w.orderView := by
  unfold Work.ask
  split
  · rfl
  · split <;> simp

@[simp] theorem Work.withdraw_orderView (vid : Nat) (a : Action) :
    (w.withdraw vid a).2.orderView = w.orderView := by
  unfold Work.withdraw
  split
  · rfl
  · split
    · split
      · rfl
      · split <;> simp
      · rfl
    · split <;> simp

@[simp] theorem Work.hold_orderView (ref vid : Nat) :
    (Work.hold ref vid w).orderView = w.orderView := rfl

@[simp] theorem Work.release_orderView (ref vid : Nat) :
    (Work.release ref vid w).orderView = w.orderView := rfl

@[simp] theorem Work.enterFault_orderView (vid : Nat) (why : FaultCause) :
    (w.enterFault vid why).orderView = w.orderView := by simp [Work.enterFault]

@[simp] theorem Work.withdrawOpen_orderView (vid : Nat) :
    (Work.withdrawOpen vid w).orderView = w.orderView := by
  unfold Work.withdrawOpen
  split
  · rfl
  · split
    · split
      · split
        · simp only; split <;> simp
        · rfl
      · rfl
    · split <;> simp

@[simp] theorem Work.reportPosition_orderView (v : Valve) (rep : Option Position) :
    (w.reportPosition v rep).orderView = w.orderView := by
  unfold Work.reportPosition
  split
  · split
    · rfl
    · split
      · split <;> simp
      · rfl
  · split
    · rfl
    · split <;> simp
  · split <;> (try rfl) <;> (try simp [Work.uncommanded])
    split <;> simp

/-! ### The order engine -/

@[simp] theorem Work.enterOrderState_orderView (o : Order) (st : OrderState) (r : Option Verification) :
    (w.enterOrderState o st r).orderView = w.orderView := rfl

@[simp] theorem Work.isolate_orderView (o : Order) (v : Verification) :
    (w.isolate o v).orderView = w.orderView := rfl

theorem Work.clearHolders_orderView (keep : Segment → List Nat) (ts : List Nat) :
    ({ w with
      segments := w.segments.map (fun g => { g with holders := keep g })
      terminalSlots := ts } : Work).orderView = w.orderView := by
  simp [Work.orderView, Function.comp_def]

@[simp] theorem Work.endOrder_orderView (o : Order) (st : OrderState) :
    (w.endOrder o st).orderView = w.orderView := by
  unfold Work.endOrder
  simp only [Work.enterOrderState_orderView, Work.updOrder_orderView, Work.clearHolders_orderView]
  exact Work.forEach_keeps Work.orderView _ (fun i w => Work.release_orderView w o.ref i) _ _

theorem issueSteps_orderView (a : Action) (mark : Taken → StepState) (rank : Nat) (ts : List Step)
    (w : Work) : (issueSteps a mark rank ts w).2.orderView = w.orderView := by
  induction ts generalizing w with
  | nil => rfl
  | cons t ts ih =>
    unfold issueSteps
    split
    · simp [ih]
    · simp [ih]

@[simp] theorem Work.issueRank_orderView (o : Order) (a : Action) (mark : Taken → StepState) (rank : Nat) :
    (w.issueRank o a mark rank).orderView = w.orderView := by
  simp [Work.issueRank, issueSteps_orderView]

@[simp] theorem Work.setStep_orderView (slot vid : Nat) (st : StepState) :
    (w.setStep slot vid st).orderView = w.orderView := rfl

@[simp] theorem Work.reissueClose_orderView (slot vid : Nat) :
    (w.reissueClose slot vid).orderView = w.orderView := by simp [Work.reissueClose]

@[simp] theorem Work.advanceClosing_orderView (n slot : Nat) :
    (Work.advanceClosing n slot w).orderView = w.orderView := by
  induction n generalizing w with
  | zero => rfl
  | succ n ih =>
    unfold Work.advanceClosing
    split
    · rfl
    · split
      · split
        · rfl
        · simp [ih]
      · rfl

@[simp] theorem Work.completeChain_orderView (slot : Nat) :
    (w.completeChain slot).orderView = w.orderView := by
  unfold Work.completeChain
  split
  · rfl
  · split <;> simp

@[simp] theorem Work.progressClosing_orderView (slot : Nat) :
    (w.progressClosing slot).orderView = w.orderView := by simp [Work.progressClosing]

@[simp] theorem Work.issueReopen_orderView (o : Order) (rank : Nat) :
    (w.issueReopen o rank).orderView = w.orderView := by simp [Work.issueReopen]

@[simp] theorem Work.progressReopening_orderView (n slot : Nat) :
    (Work.progressReopening n slot w).orderView = w.orderView := by
  induction n generalizing w with
  | zero => rfl
  | succ n ih =>
    unfold Work.progressReopening
    split
    · rfl
    · split
      · rfl
      · split
        · split <;> simp [ih]
        · rfl

@[simp] theorem Work.beginReopening_orderView (slot : Nat) :
    (w.beginReopening slot).orderView = w.orderView := by
  unfold Work.beginReopening
  split
  · rfl
  · split <;> simp

@[simp] theorem Work.passClosing_orderView (o : Order) (t : Step) (e : Passed) :
    (w.passClosing o t e).orderView = w.orderView := by
  cases e <;> simp only [Work.passClosing]
  · split
    · split <;> simp
    · split
      · simp
      · split
        · split <;> simp
        · rfl
  · split <;> simp

@[simp] theorem Work.passBreach_orderView (o : Order) (t : Step) (e : Passed) :
    (w.passBreach o t e).orderView = w.orderView := by
  cases e <;> simp only [Work.passBreach]
  split <;> simp

@[simp] theorem Work.passRestoring_orderView (o : Order) (t : Step) (e : Passed) :
    (w.passRestoring o t e).orderView = w.orderView := by
  cases e <;> simp only [Work.passRestoring]
  · split
    · split <;> simp
    · split <;> simp
  all_goals split <;> simp

@[simp] theorem Work.passToOrder_orderView (vid : Nat) (e : Passed) :
    (w.passToOrder vid e).orderView = w.orderView := by
  unfold Work.passToOrder
  split
  · rfl
  · split
    · rfl
    · split
      · rfl
      · split
        · rfl
        · split <;> (try rfl) <;> (try simp)
          · split <;> simp
          · split
            · rfl
            · split <;> simp

@[simp] theorem Work.announceRise_orderView (segment : Nat) :
    (w.announceRise segment).orderView = w.orderView := by
  unfold Work.announceRise
  rw [Work.forEach_keeps Work.orderView _ (fun i w => Work.passToOrder_orderView w i _),
    Work.fillQueue_orderView,
    Work.forEach_keeps Work.orderView _ (fun i w => Work.withdrawOpen_orderView w i)]

@[simp] theorem Work.announceFall_orderView (segment : Nat) :
    (w.announceFall segment).orderView = w.orderView :=
  Work.forEach_keeps Work.orderView _ (fun i w => Work.passToOrder_orderView w i _) _ _

@[simp] theorem Work.refuseCommit_orderView (o : Order) :
    (w.refuseCommit o).orderView = w.orderView := by
  unfold Work.refuseCommit
  simp only
  split <;> simp

theorem Work.commit_orderView (o : Order) (p : Port) (ov : Bool) (region : List Nat) (steps : List Step)
    (g : Figures) : (w.commit o p ov region steps g).orderView = w.orderView := by
  unfold Work.commit
  simp only [Work.progressClosing_orderView, Work.enterOrderState_orderView]
  have h : ∀ x : Work, ({ x with
      segments := x.segments.map (fun s =>
        if g.expectedOff.contains s.id then { s with holders := putNat o.ref s.holders } else s) } :
          Work).orderView = x.orderView := by
    intro x
    simp only [Work.orderView]
    congr 1
    exact List.map_if_eq x.segments (fun s => g.expectedOff.contains s.id)
      (fun s => { s with holders := putNat o.ref s.holders }) _ (fun _ => rfl)
  rw [h]
  exact Work.forEach_keeps Work.orderView _ (fun i w => Work.hold_orderView w o.ref i) _ _

@[simp] theorem Work.plannedResult_orderView (present : Bool) (r : PlannedRequest) (off : List Nat) :
    (w.plannedResult present r off).2.orderView = w.orderView := by
  unfold Work.plannedResult
  split
  · unfold Work.proposeResult
    split
    · rfl
    · split <;> simp
  · unfold Work.commitResult
    simp only
    split
    · rfl
    · split
      · rfl
      · split
        · simp
        · exact Work.commit_orderView w _ _ _ _ _ _

@[simp] theorem Work.voidResult_orderView (r : PlannedRequest) :
    (w.voidResult r).orderView = w.orderView := by
  unfold Work.voidResult
  split
  · split
    · rfl
    · split <;> simp
  · rfl

@[simp] theorem Work.orderPublication_orderView (slot : Nat) :
    (Work.orderPublication slot w).orderView = w.orderView := by
  unfold Work.orderPublication
  split
  · rfl
  · simp only
    split <;> (try rfl)
    · split
      · split <;> simp
      · split
        · split <;> simp
        · rfl
    · split <;> simp
    · split <;> simp
    · split <;> simp

@[simp] theorem Work.ordersTakePublication_orderView :
    w.ordersTakePublication.orderView = w.orderView :=
  Work.forEach_keeps Work.orderView _ (fun i w => Work.orderPublication_orderView w i) _ _

@[simp] theorem Work.offerReading_orderView (u i f vent : Nat) :
    (w.offerReading u i f vent).orderView = w.orderView := by
  unfold Work.offerReading
  split
  · rfl
  · apply Work.forEach_keeps Work.orderView
    intro k w
    unfold Work.decayReading
    split
    · rfl
    · split
      · simp only; split <;> simp
      · rfl

@[simp] theorem Work.decayExpiry_orderView (o : Order) (t : Nat) :
    (w.decayExpiry o t).orderView = w.orderView := by
  unfold Work.decayExpiry
  simp only
  split <;> simp

theorem Work.withdrawSteps_orderView (steps : List Step) (pick : Step → Bool) :
    (w.withdrawSteps steps pick).orderView = w.orderView :=
  Work.forEach_keeps Work.orderView _ (fun i w => Work.withdraw_orderView w i _) _ _

@[simp] theorem Work.takeBeginRestore_orderView (pl : List Byte) :
    (w.takeBeginRestore pl).2.orderView = w.orderView := by
  unfold Work.takeBeginRestore
  split
  · rfl
  · split
    · rfl
    · split <;> simp [Work.withdrawSteps_orderView]

@[simp] theorem Work.cancelExecuting_orderView (o : Order) :
    (w.cancelExecuting o).orderView = w.orderView := by
  unfold Work.cancelExecuting
  simp only
  split
  · simp [Work.withdrawSteps_orderView]
  · simp only [Work.beginReopening_orderView, Work.enterOrderState_orderView, Work.updOrder_orderView]
    rw [Work.forEach_keeps Work.orderView _ (fun i w => Work.release_orderView w o.ref i)]
    simp [Work.withdrawSteps_orderView]

@[simp] theorem Work.takeCancel_orderView (p : Port) (pl : List Byte) :
    (w.takeCancel p pl).2.orderView = w.orderView := by
  unfold Work.takeCancel
  split
  · rfl
  · split
    · rfl
    · split
      · simp
      · split <;> simp
      · rfl

/-! ### Requests of the valve block -/

@[simp] theorem Work.takeOperate_orderView (pl : List Byte) :
    (w.takeOperate pl).2.orderView = w.orderView := by
  unfold Work.takeOperate
  split
  · rfl
  · split
    · rfl
    · split
      · rfl
      · split
        · rfl
        · split <;>
          · rename_i h
            have h2 := congrArg (fun x => x.2.orderView) h
            simp only [Work.command_orderView] at h2
            exact h2.symm

@[simp] theorem Work.takeAssert_orderView (pl : List Byte) :
    (w.takeAssert pl).2.orderView = w.orderView := by
  unfold Work.takeAssert
  split
  · rfl
  · split <;> simp [Work.assertValve]

@[simp] theorem Work.takeMark_orderView (pl : List Byte) : (w.takeMark pl).2.orderView = w.orderView := by
  unfold Work.takeMark
  split
  · rfl
  · split <;> simp

@[simp] theorem Work.takeCrewReport_orderView (pl : List Byte) :
    (w.takeCrewReport pl).2.orderView = w.orderView := by
  unfold Work.takeCrewReport
  split
  · rfl
  · split
    · rfl
    · split
      · rfl
      · simp only [Work.crewReport, Work.passToOrder_orderView, Work.updValve_orderView]
        split <;> simp

@[simp] theorem Work.takePositionReport_orderView (pl : List Byte) :
    (Work.takePositionReport pl w).orderView = w.orderView := by
  unfold Work.takePositionReport
  split
  · rfl
  · split
    · rfl
    · split
      · rfl
      · simp only; split <;> simp

@[simp] theorem Work.takePull_orderView : w.takePull.2.orderView = w.orderView := by
  unfold Work.takePull
  split
  · rfl
  · simp

end

/-! ### The call register -/

section
variable (w : Work)

theorem Work.updCount_callView (id : Nat) (n : Segment → Nat) :
    (w.updSegment id (fun x => { x with unsafeA := n x })).callView = w.callView := by
  have := List.map_if_eq w.segments (fun x => x.id == id) (fun x => { x with unsafeA := n x })
    (fun g => { g with holders := [], unsafeA := 0 }) (fun _ => rfl)
  unfold Work.callView
  rw [Work.updSegment_segments, this]
  rfl

@[simp] theorem Work.raise_callView (k : NoticeKind) (n : Nat) (d : Option Detail) :
    (w.raise k n d).callView = w.callView := rfl

@[simp] theorem Work.updCall_callView (k : Nat) (g : Call → Call) :
    (w.updCall k g).callView = w.callView := rfl

@[simp] theorem Work.countUp_callView (segment : Nat) : (w.countUp segment).callView = w.callView := by
  unfold Work.countUp
  split
  · rfl
  · simp only
    split
    · rw [Work.callView_of_orderView (Work.announceRise_orderView _ _), Work.updCount_callView]
    · rw [Work.updCount_callView]

@[simp] theorem Work.countDown_callView (segment : Nat) : (w.countDown segment).callView = w.callView := by
  unfold Work.countDown
  split
  · rfl
  · simp only
    split
    · rw [Work.callView_of_orderView (Work.announceFall_orderView _ _), Work.updCount_callView]
    · rw [Work.updCount_callView]

@[simp] theorem Work.expireCall_callView (c : Call) : (w.expireCall c).callView = w.callView := rfl

@[simp] theorem Work.expireIfDue_callView (slot : Nat) : (w.expireIfDue slot).callView = w.callView := by
  unfold Work.expireIfDue
  split
  · rfl
  · split
    · rfl
    · split <;> simp

@[simp] theorem Work.evaluate_callView (c : Call) (cls : CallClass) :
    (w.evaluate c cls).callView = w.callView := by
  unfold Work.evaluate
  simp only
  split
  · simp
  · split <;> split <;> simp

@[simp] theorem Work.summaryChanged_callView (segment : Nat) :
    (w.summaryChanged segment).callView = w.callView := by
  apply Work.forEach_keeps Work.callView
  intro k w
  split
  · rfl
  · split <;> simp

@[simp] theorem Work.takeLogCall_callView (reloading : Bool) (pl : List Byte) :
    (w.takeLogCall reloading pl).2.callView = w.callView := by
  unfold Work.takeLogCall
  simp only
  split
  · rfl
  · split
    · rfl
    · split
      · rfl
      · split
        · simp [Work.mergeCall]
        · split
          · rfl
          · simp only [Work.makeCall, Work.raise_callView]
            split
            · rw [Work.countUp_callView]; rfl
            · rfl

@[simp] theorem Work.takeAssign_callView (pl : List Byte) :
    (w.takeAssign pl).2.callView = w.callView := by
  unfold Work.takeAssign
  simp only
  split
  · rfl
  · split
    · rfl
    · split <;> simp

@[simp] theorem Work.takeProgress_callView (pl : List Byte) :
    (w.takeProgress pl).2.callView = w.callView := by
  unfold Work.takeProgress
  simp only
  split
  · rfl
  · split
    · rfl
    · split
      · rfl
      · split
        · simp only [Work.progressCall]
          split <;> split <;> (try rw [Work.countDown_callView]) <;> rfl
        · rfl

/-! ### The pressure monitor -/

theorem Work.updSummary_pressureView (id : Nat) (a : Segment → Summary) (b : Segment → Bool) :
    (w.updSegment id (fun x => { x with summary := a x, falling := b x })).pressureView =
      w.pressureView := by
  have := List.map_if_eq w.segments (fun x => x.id == id)
    (fun x => { x with summary := a x, falling := b x })
    (fun g => { g with holders := [], unsafeA := 0, summary := .noChannel, falling := false })
    (fun _ => rfl)
  unfold Work.pressureView
  rw [Work.updSegment_segments, this]
  rfl

@[simp] theorem Work.raise_pressureView (k : NoticeKind) (n : Nat) (d : Option Detail) :
    (w.raise k n d).pressureView = w.pressureView := rfl

@[simp] theorem Work.updChannel_pressureView (u i : Nat) (g : Channel → Channel) :
    (w.updChannel u i g).pressureView = w.pressureView := rfl

@[simp] theorem Work.raiseChannel_pressureView (k : NoticeKind) (c : Channel) (f : Nat) :
    (w.raiseChannel k c f).pressureView = w.pressureView := rfl

@[simp] theorem Work.updateChannel_pressureView (c : Channel) (r : Nat) :
    (w.updateChannel c r).pressureView = w.pressureView := by
  unfold Work.updateChannel
  simp only
  rw [Work.pressureView_of_callView (Work.callView_of_orderView (Work.offerReading_orderView _ _ _ _ _))]
  split <;> split <;> simp

@[simp] theorem Work.faultChannel_pressureView (c : Channel) :
    (w.faultChannel c).pressureView = w.pressureView := by
  unfold Work.faultChannel; split <;> simp

@[simp] theorem Work.recompute_pressureView (segment : Nat) :
    (Work.recompute segment w).pressureView = w.pressureView := by
  unfold Work.recompute
  split
  · rfl
  · simp only
    split
    · rfl
    · rw [Work.pressureView_of_callView (Work.summaryChanged_callView _ _),
        Work.updSummary_pressureView]

@[simp] theorem Work.recomputeUnit_pressureView (unit : Nat) :
    (w.recomputeUnit unit).pressureView = w.pressureView :=
  Work.forEach_keeps Work.pressureView _ (fun i w => Work.recompute_pressureView w i) _ _

@[simp] theorem Work.trip_pressureView (sid : Nat) : (w.trip sid).pressureView = w.pressureView := by
  unfold Work.trip
  split
  · rfl
  · unfold Work.writeSource; split <;> rfl

@[simp] theorem Work.takeUnitReport_pressureView (pl : List Byte) :
    (w.takeUnitReport pl).pressureView = w.pressureView := by
  unfold Work.takeUnitReport
  simp only
  split
  · rfl
  · split
    · rfl
    · rw [Work.recomputeUnit_pressureView, Work.forEach_keeps Work.pressureView]
      · split <;> split <;> first | rfl | (simp; try rfl)
      · intro i w
        unfold Work.reportChannel
        split
        · rfl
        · split
          · simp
          · split <;> simp

@[simp] theorem Work.expireWatch_pressureView (u : FieldUnit) :
    (w.expireWatch u).pressureView = w.pressureView := by
  unfold Work.expireWatch
  simp only [Work.recomputeUnit_pressureView, Work.raise_pressureView]
  rfl

end

/-! ### The end of suppression, and the waking of the engine -/

section
variable (w : Work)

/-- The picture without its channels: all that the end of suppression leaves. -/
def Work.channelless (w : Work) : Picture := { w.toPicture with channels := [] }

@[simp] theorem Work.notifyLow_channelless (c : Channel) : (w.notifyLow c).channelless = w.channelless := by
  unfold Work.notifyLow; split <;> rfl

/-- The end of suppression writes channels only (R42). -/
theorem Work.endSuppression_channelless (before : Picture) :
    (w.endSuppression before).channelless = w.channelless := by
  unfold Work.endSuppression
  generalize before.segments.zip w.segments = pairs
  induction pairs generalizing w with
  | nil => rfl
  | cons p ps ih =>
    rw [List.foldl_cons, ih]
    split
    · generalize w.channelsOf p.2.id = cs
      induction cs generalizing w with
      | nil => rfl
      | cons c cs ihc => rw [List.foldl_cons, ihc]; simp
    · rfl

/-- An event that ends no suppression: suppression is judged only on segments that differ (R42). -/
theorem Work.endSuppression_of_segments_eq (before : Picture) (h : w.segments = before.segments) :
    w.endSuppression before = w := by
  unfold Work.endSuppression
  rw [h]
  have key : ∀ (l : List Segment) (acc : Work), (l.zip l).foldl (fun acc pair =>
      if suppressionEnded pair.1 pair.2 then
        (acc.channelsOf pair.2.id).foldl (fun a c => a.notifyLow c) acc
      else acc) acc = acc := by
    intro l
    induction l with
    | nil => intro acc; rfl
    | cons g gs ih =>
      intro acc
      rw [List.zip_cons_cons, List.foldl_cons, if_neg (by simp [suppressionEnded]), ih]
  exact key _ _

/-- Waking writes the sweep engine only (R52). -/
theorem Work.wake_sweepless (before : Picture) :
    ({ (w.wake before).toPicture with sweep := w.sweep } : Picture) = w.toPicture := by
  unfold Work.wake
  split
  · split
    · rfl
    · split
      · unfold Work.startPlanned; split <;> rfl
      · rfl
  · rfl

@[simp] theorem Work.wake_out (before : Picture) : (w.wake before).out = w.out := by
  unfold Work.wake
  split
  · split
    · rfl
    · split
      · unfold Work.startPlanned; split <;> rfl
      · rfl
  · rfl

/-- An event that neither sets actual-pending nor adds a planned request wakes nothing (R52). -/
theorem Work.wake_of_sweep_eq (before : Picture) (h : w.sweep = before.sweep) : w.wake before = w := by
  unfold Work.wake
  rw [h]
  split
  · rw [if_neg (by simp)]
    split
    · rename_i h2; simp at h2
    · rfl
  · rfl

end

/-- The work of an event that leaves segments and sweep engine alone comes in as it is, with its notices. -/
theorem State.absorb_quiet (s : State) (w : Work) (hs : w.segments = s.segments)
    (hw : w.sweep = s.sweep) :
    s.absorb w = ({ s with toPicture := w.toPicture } : State).route w.out := by
  unfold State.absorb
  simp only [Work.endSuppression_of_segments_eq w s.toPicture hs, Work.wake_of_sweep_eq w s.toPicture hw]

end Sys2Proof.Machine
end

