-- ==== Sys2Proof/Laws/Service.lean ====
section
/-! SUPPORT. Taking and answering: what a port does with the request it offers, said once for each way of serving. -/

namespace Sys2Proof.Machine

theorem RequestKind.ofCode_byte (k : RequestKind) : RequestKind.ofCode k.byte.toNat = some k := by
  cases k <;> rfl

section
variable (s : State)

@[simp] theorem State.taken_toPicture (p : Port) (rest : List Request) :
    (s.taken p rest).toPicture = s.toPicture := by simp [State.taken]
@[simp] theorem State.taken_grants (p : Port) (rest : List Request) :
    (s.taken p rest).grants = s.grants := by simp [State.taken]
@[simp] theorem State.taken_presence (p : Port) (rest : List Request) :
    (s.taken p rest).presence = s.presence := by simp [State.taken]
@[simp] theorem State.taken_noticesS (p : Port) (rest : List Request) :
    (s.taken p rest).noticesS = s.noticesS := by simp [State.taken]
@[simp] theorem State.taken_noticesD (p : Port) (rest : List Request) :
    (s.taken p rest).noticesD = s.noticesD := by simp [State.taken]
@[simp] theorem State.taken_store (p : Port) (rest : List Request) :
    (s.taken p rest).store = s.store := by simp [State.taken]
@[simp] theorem State.taken_flash (p : Port) (rest : List Request) :
    (s.taken p rest).flash = s.flash := by simp [State.taken]
@[simp] theorem State.taken_freeDraws (p : Port) (rest : List Request) :
    (s.taken p rest).freeDraws = s.freeDraws := by simp [State.taken]
@[simp] theorem State.taken_pending (p : Port) (rest : List Request) :
    (s.taken p rest).pending = s.pending := by simp [State.taken]
@[simp] theorem State.taken_port (p : Port) (rest : List Request) :
    (s.taken p rest).port p = { s.port p with inbound := rest } := by simp [State.taken]
theorem State.taken_port_ne {p q : Port} (rest : List Request) (h : q ≠ p) :
    (s.taken p rest).port q = s.port q := by simp [State.taken, State.setPort_port_ne, h]

@[simp] theorem State.answer_toPicture (p : Port) (k : RequestKind) (tag : Byte) (r : Result)
    (pl : List Byte) : (s.answer p k tag r pl).toPicture = s.toPicture := by simp [State.answer]
@[simp] theorem State.answer_grants (p : Port) (k : RequestKind) (tag : Byte) (r : Result)
    (pl : List Byte) : (s.answer p k tag r pl).grants = s.grants := by simp [State.answer]
@[simp] theorem State.answer_presence (p : Port) (k : RequestKind) (tag : Byte) (r : Result)
    (pl : List Byte) : (s.answer p k tag r pl).presence = s.presence := by simp [State.answer]
@[simp] theorem State.answer_noticesS (p : Port) (k : RequestKind) (tag : Byte) (r : Result)
    (pl : List Byte) : (s.answer p k tag r pl).noticesS = s.noticesS := by simp [State.answer]
@[simp] theorem State.answer_noticesD (p : Port) (k : RequestKind) (tag : Byte) (r : Result)
    (pl : List Byte) : (s.answer p k tag r pl).noticesD = s.noticesD := by simp [State.answer]
@[simp] theorem State.answer_store (p : Port) (k : RequestKind) (tag : Byte) (r : Result)
    (pl : List Byte) : (s.answer p k tag r pl).store = s.store := by simp [State.answer]
@[simp] theorem State.answer_flash (p : Port) (k : RequestKind) (tag : Byte) (r : Result)
    (pl : List Byte) : (s.answer p k tag r pl).flash = s.flash := by simp [State.answer]
@[simp] theorem State.answer_flow (p : Port) (k : RequestKind) (tag : Byte) (r : Result)
    (pl : List Byte) : (s.answer p k tag r pl).flow = s.flow := by simp [State.answer]
@[simp] theorem State.answer_freeDraws (p : Port) (k : RequestKind) (tag : Byte) (r : Result)
    (pl : List Byte) : (s.answer p k tag r pl).freeDraws = s.freeDraws := by simp [State.answer]
@[simp] theorem State.answer_pending (p : Port) (k : RequestKind) (tag : Byte) (r : Result)
    (pl : List Byte) : (s.answer p k tag r pl).pending = s.pending := by simp [State.answer]
@[simp] theorem State.answer_port (p : Port) (k : RequestKind) (tag : Byte) (r : Result)
    (pl : List Byte) : (s.answer p k tag r pl).port p =
      { s.port p with replies := (s.port p).replies ++ [replyFrame k.byte tag r pl] } := by
  simp [State.answer]
theorem State.answer_port_ne {p q : Port} (k : RequestKind) (tag : Byte) (r : Result)
    (pl : List Byte) (h : q ≠ p) : (s.answer p k tag r pl).port q = s.port q := by
  simp [State.answer, State.placeReply_port_ne, h]

end

section
variable {s : State} {p : Port} {k : RequestKind} {tag : Byte} {pl : List Byte} {rest : List Request}

/-- A port takes the request it offers (R185, R188). -/
theorem State.takeKind_of_offers (h : s.offers p k tag pl rest) :
    s.takeKind p k = some (⟨k.byte, tag, pl⟩, s.taken p rest) := by
  obtain ⟨hin, hsv, hrep, hst⟩ := h
  have hmay : s.mayTake p ⟨k.byte, tag, pl⟩ = true := by
    simp [State.mayTake, State.loadEnded, hsv, hrep, hst, replyCap]
  unfold State.takeKind State.takeOldest
  simp only [hin, hmay, if_true, RequestKind.ofCode_byte]
  rfl

theorem State.commonCheck_of_passes (h : s.passes p k pl) :
    (s.taken p rest).commonCheck p k pl = none := by
  obtain ⟨hg, hm, hl⟩ := h
  have hp : (s.taken p rest).permits p k = s.permits p k := by simp [State.permits]
  unfold State.commonCheck
  rw [hp, hg, hl]
  cases hsm : s.model with
  | none => simp_all
  | some m => simp [hsm]

/-- A request that passes the common checks is served by its block's own work (R185, R187). -/
theorem State.serve_of_passes (own : State → List Byte → Work → Answer × Work)
    (h : s.offers p k tag pl rest) (hp : s.passes p k pl) :
    s.serve p k own =
      ((s.taken p rest).absorb (own (s.taken p rest) pl (s.taken p rest).work).2).answer p k tag
        (own (s.taken p rest) pl (s.taken p rest).work).1.1
        (own (s.taken p rest) pl (s.taken p rest).work).1.2 := by
  unfold State.serve
  rw [State.takeKind_of_offers h]
  simp only [State.commonCheck_of_passes hp]
  rfl

theorem State.serveState_of_passes (own : State → List Byte → Answer × State)
    (h : s.offers p k tag pl rest) (hp : s.passes p k pl) :
    s.serveState p k own =
      (own (s.taken p rest) pl).2.answer p k tag (own (s.taken p rest) pl).1.1
        (own (s.taken p rest) pl).1.2 := by
  unfold State.serveState
  rw [State.takeKind_of_offers h]
  simp only [State.commonCheck_of_passes hp]
  rfl

/-- A request of the five long kinds that passes is held (R185), or refused by its own checks. -/
theorem State.serveHeld_of_passes (own : State → List Byte → Except Result State)
    (h : s.offers p k tag pl rest) (hp : s.passes p k pl) :
    s.serveHeld p k own =
      match own (s.taken p rest) pl with
      | .error code => (s.taken p rest).answer p k tag code []
      | .ok s2 => s2.holdRequest p k tag := by
  unfold State.serveHeld
  rw [State.takeKind_of_offers h]
  simp only [State.commonCheck_of_passes hp]
  rfl

/-- A report that passes acts and is never answered (R188). -/
theorem State.serveReport_of_passes (own : List Byte → Work → Work)
    (h : s.offers p k tag pl rest) (hp : s.passes p k pl) :
    s.serveReport p k own = ((s.taken p rest).absorb (own pl (s.taken p rest).work)).settle := by
  unfold State.serveReport
  rw [State.takeKind_of_offers h]
  simp only [State.commonCheck_of_passes hp]

/-- A request refused by the common checks changes nothing but its port (R187). -/
theorem State.serve_of_refused (own : State → List Byte → Work → Answer × Work) {code : Result}
    (h : s.offers p k tag pl rest) (hc : (s.taken p rest).commonCheck p k pl = some code) :
    s.serve p k own = (s.taken p rest).answer p k tag code [] := by
  unfold State.serve
  rw [State.takeKind_of_offers h]
  simp only [hc]
  rfl

theorem State.serveState_of_refused (own : State → List Byte → Answer × State) {code : Result}
    (h : s.offers p k tag pl rest) (hc : (s.taken p rest).commonCheck p k pl = some code) :
    s.serveState p k own = (s.taken p rest).answer p k tag code [] := by
  unfold State.serveState
  rw [State.takeKind_of_offers h]
  simp only [hc]
  rfl

theorem State.serveHeld_of_refused (own : State → List Byte → Except Result State) {code : Result}
    (h : s.offers p k tag pl rest) (hc : (s.taken p rest).commonCheck p k pl = some code) :
    s.serveHeld p k own = (s.taken p rest).answer p k tag code [] := by
  unfold State.serveHeld
  rw [State.takeKind_of_offers h]
  simp only [hc]
  rfl

/-- What a taking can be: the port's oldest frame, of the kind, with the state after it (R185). -/
theorem State.takeKind_some {f : Request} {s1 : State} (h : s.takeKind p k = some (f, s1)) :
    ∃ rest, (s.port p).inbound = f :: rest ∧ s.mayTake p f = true ∧ s1 = s.taken p rest ∧
      RequestKind.ofCode f.kind.toNat = some k := by
  unfold State.takeKind at h
  split at h
  · cases h
  · rename_i f' s1' ht
    split at h
    · rename_i hk
      cases h
      unfold State.takeOldest at ht
      split at ht
      · cases ht
      · rename_i f2 rest hin
        split at ht
        · rename_i hm
          cases ht
          exact ⟨rest, hin, hm, rfl, hk⟩
        · cases ht
    · cases h

/-- All that serving can do: nothing, a refusal by the common checks, or the block's work and its answer. -/
theorem State.serve_cases (s : State) (p : Port) (k : RequestKind)
    (own : State → List Byte → Work → Answer × Work) :
    s.serve p k own = s ∨
    ∃ (f : Request) (rest : List Request), (s.port p).inbound = f :: rest ∧ s.mayTake p f = true ∧
      RequestKind.ofCode f.kind.toNat = some k ∧
      ((∃ code, s.serve p k own = ((s.taken p rest).placeReply p f.kind f.tag (code, [])).settle) ∨
       s.serve p k own = (((s.taken p rest).absorb (own (s.taken p rest) f.payload
          (s.taken p rest).work).2).placeReply p f.kind f.tag
          (own (s.taken p rest) f.payload (s.taken p rest).work).1).settle) := by
  unfold State.serve
  split
  · exact Or.inl rfl
  · rename_i f s1 ht
    obtain ⟨rest, hin, hm, rfl, hk⟩ := State.takeKind_some ht
    refine Or.inr ⟨f, rest, hin, hm, hk, ?_⟩
    split
    · exact Or.inl ⟨_, rfl⟩
    · exact Or.inr rfl

theorem State.serveState_cases (s : State) (p : Port) (k : RequestKind)
    (own : State → List Byte → Answer × State) :
    s.serveState p k own = s ∨
    ∃ (f : Request) (rest : List Request), (s.port p).inbound = f :: rest ∧ s.mayTake p f = true ∧
      RequestKind.ofCode f.kind.toNat = some k ∧
      ((∃ code, s.serveState p k own =
          ((s.taken p rest).placeReply p f.kind f.tag (code, [])).settle) ∨
       s.serveState p k own = ((own (s.taken p rest) f.payload).2.placeReply p f.kind f.tag
          (own (s.taken p rest) f.payload).1).settle) := by
  unfold State.serveState
  split
  · exact Or.inl rfl
  · rename_i f s1 ht
    obtain ⟨rest, hin, hm, rfl, hk⟩ := State.takeKind_some ht
    refine Or.inr ⟨f, rest, hin, hm, hk, ?_⟩
    split
    · exact Or.inl ⟨_, rfl⟩
    · exact Or.inr rfl

theorem State.serveHeld_cases (s : State) (p : Port) (k : RequestKind)
    (own : State → List Byte → Except Result State) :
    s.serveHeld p k own = s ∨
    ∃ (f : Request) (rest : List Request), (s.port p).inbound = f :: rest ∧ s.mayTake p f = true ∧
      RequestKind.ofCode f.kind.toNat = some k ∧
      ((∃ code, s.serveHeld p k own =
          ((s.taken p rest).placeReply p f.kind f.tag (code, [])).settle) ∨
       ∃ s2, own (s.taken p rest) f.payload = .ok s2 ∧ s.serveHeld p k own =
          (s2.setPort p { s2.port p with inService := some ⟨f.kind, f.tag, false⟩ }).settle) := by
  unfold State.serveHeld
  split
  · exact Or.inl rfl
  · rename_i f s1 ht
    obtain ⟨rest, hin, hm, rfl, hk⟩ := State.takeKind_some ht
    refine Or.inr ⟨f, rest, hin, hm, hk, ?_⟩
    split
    · exact Or.inl ⟨_, rfl⟩
    · split
      · exact Or.inl ⟨_, rfl⟩
      · rename_i s2 ho
        exact Or.inr ⟨s2, ho, rfl⟩

end

/-! ### Notices -/

/-- All that a raise can do to a port's notice state (R170 to R172). -/
theorem NoticePort.receive_cases (now : Nat) (np : NoticePort) (r : Raise) :
    np.receive now r = np ∨
    np.receive now r = { np with
      queue := np.queue.map (fun e => if e.matches r then e.coalesce r else e) } ∨
    ((∀ e ∈ np.queue, e.matches r = false) ∧ np.queue.length < noticeCap ∧
      np.receive now r = { np with queue := np.queue ++ [⟨r.kind, r.subject, now, 1, r.detail⟩] }) ∨
    np.receive now r = { np with overflow := true } := by
  unfold NoticePort.receive
  split
  · exact Or.inl rfl
  · split
    · exact Or.inr (Or.inl rfl)
    · rename_i hany
      split
      · rename_i hlen
        refine Or.inr (Or.inr (Or.inl ⟨?_, hlen, rfl⟩))
        intro e he
        simp only [List.any_eq_true, not_exists, not_and] at hany
        simpa using hany e he
      · exact Or.inr (Or.inr (Or.inr rfl))

@[simp] theorem NoticePort.receive_mask (now : Nat) (np : NoticePort) (r : Raise) :
    (np.receive now r).mask = np.mask := by
  rcases NoticePort.receive_cases now np r with h | h | ⟨_, _, h⟩ | h <;> rw [h]

theorem NoticePort.receiveAll_mask (now : Nat) (rs : List Raise) (np : NoticePort) :
    (rs.foldl (NoticePort.receive now) np).mask = np.mask := by
  induction rs generalizing np with
  | nil => rfl
  | cons r rs ih => rw [List.foldl_cons, ih, NoticePort.receive_mask]

@[simp] theorem State.route_noticesS_mask (s : State) (rs : List Raise) :
    (s.route rs).noticesS.mask = s.noticesS.mask := NoticePort.receiveAll_mask _ _ _
@[simp] theorem State.route_noticesD_mask (s : State) (rs : List Raise) :
    (s.route rs).noticesD.mask = s.noticesD.mask := NoticePort.receiveAll_mask _ _ _

/-- No raise, no change. -/
@[simp] theorem State.route_nil (s : State) : s.route [] = s := rfl

end Sys2Proof.Machine
end

