-- ==== Sys2Proof/Tests/Slice0.lean ====
section
/-! SUPPORT. The model's own tests: ill-formed commands, the manual's worked numbers, and for every obligation with
hypotheses a state and operands that meet them. -/

namespace Sys2Proof.Tests

set_option Elab.async false
set_option synthInstance.maxSize 1024

open Sys2Proof Sys2Proof.Machine

/-! ### Ill-formed commands -/

theorem test_watchExpiry_unit64_isIllFormed : (Instr.watchExpiry 64).wf = false := by decide
theorem test_watchExpiry_unit63_isWellFormed : (Instr.watchExpiry 63).wf = true := by decide
theorem test_travelDeadlineExpiry_valve512_isIllFormed :
    (Instr.travelDeadlineExpiry 512).wf = false := by decide
theorem test_decayDeadlineExpiry_slot16_isIllFormed : (Instr.decayDeadlineExpiry 16).wf = false := by
  decide
theorem test_proposalExpiry_slot16_isIllFormed : (Instr.proposalExpiry 16).wf = false := by decide
theorem test_callDeadlineExpiry_slot128_isIllFormed :
    (Instr.callDeadlineExpiry 128).wf = false := by decide

/-! ### The manual's worked numbers -/

/-- The CRC of A5 41 07 00 is 0x61F9 (R183). -/
theorem test_crc_nextCallRequest : requestFrame 0x41#8 7#8 [] =
    [0xA5#8, 0x41#8, 0x07#8, 0x00#8, 0x61#8, 0xF9#8] := by decide +kernel

/-- The reply 5A 41 07 04 00 has CRC 0x13EC (R183). -/
theorem test_crc_notPermittedReply : replyFrame 0x41#8 7#8 .notPermitted [] =
    [0x5A#8, 0x41#8, 0x07#8, 0x04#8, 0x00#8, 0x13#8, 0xEC#8] := by decide +kernel

/-! ### A small network, in service -/

def demoSegments : List Segment :=
  [⟨0, .mp, 0, false, .noChannel, false, .live, 0, none, [], 0⟩,
   ⟨1, .lp, 420, false, .normal, false, .relight, 20, some 1, [], 0⟩,
   ⟨2, .lp, 310, true, .low, false, .live, 0, none, [], 1⟩,
   ⟨3, .lp, 150, false, .unknown, false, .purge, 0, some 1, [2], 0⟩,
   ⟨4, .lp, 0, false, .noChannel, false, .purge, 0, some 1, [], 0⟩]

def demoValve : Valve :=
  { id := 0, endA := .source 0, endB := .segment 0, kind := .remote, travel := some (20, 90),
    normal := .open_, position := .open_, operable := true, holder := none, pendingCmd := none,
    window := none, lastChange := 3, prior := none, outstanding := none }

def demoValves : List Valve :=
  [demoValve,
   { demoValve with id := 1, endA := .segment 0, endB := .segment 1, position := .closed },
   { demoValve with
     id := 2, endA := .segment 1, endB := .segment 2, kind := .manual, travel := none,
     outstanding := some .close },
   { demoValve with
     id := 3, endA := .segment 0, endB := .segment 3, position := .closing, prior := some .open_ },
   { demoValve with
     id := 4, endA := .segment 1, endB := .segment 3, position := .opening, window := some (25, 30) },
   { demoValve with id := 5, endA := .segment 1, endB := .segment 4, position := .fault, operable := false },
   { demoValve with id := 6, endA := .segment 3, endB := .segment 4, holder := some 2, position := .closed },
   { demoValve with
     id := 511, endA := .segment 0, endB := .segment 4, position := .closing, prior := some .unknown }]

def demoChannel : Channel :=
  { unit := 0, index := 0, segment := 1, zero := 3277, gain := 64, shift := 2, loEnter := 1750,
    loExit := 1850, hiExit := 2600, hiEnter := 2750, fallLimit := 150, vent := 300, raw := some 11277,
    p := some 2000, f := some 2000, state := .normal, underRange := false, overRange := false,
    falling := false, updated := some 28, lowPending := false }

def demoChannels : List Channel :=
  [demoChannel,
   { demoChannel with index := 1, segment := 2, state := .low, f := some 1700, p := some 1700 },
   { demoChannel with
     unit := 1, index := 0, segment := 3, state := .unknown, f := none, p := none, raw := none,
     updated := none }]

def demoUnits : List FieldUnit :=
  [⟨0, 30, 2, some 0, .fresh, 58, false, some 28⟩, ⟨1, 30, 1, none, .silent, 30, false, none⟩]

def demoOrder : Order :=
  { slot := 0, ref := 1, origin := .s, linkedCall := some 1, target := 1, region := [1],
    automatic := false, steps := [⟨1, 0, .waiting⟩, ⟨2, 1, .waiting⟩], expectedOff := [1],
    newlyAffected := [1], customerSum := 420, priorityCut := false, override := false,
    state := .proposed, proposed := 10, verification := none, decayDeadline := none, decayList := [],
    figuresPending := false, commitInHand := false, cancelling := false, expiry := some 910,
    reopening := none }

def demoOrders : List Order :=
  [demoOrder,
   { demoOrder with
     slot := 1, ref := 2, origin := .d, target := 3, region := [3], steps := [⟨6, 0, .confirmed⟩],
     state := .executing, expiry := none, decayDeadline := some 30, decayList := [⟨1, 0, false⟩] },
   { demoOrder with
     slot := 2, ref := 3, region := [4], steps := [⟨5, 7, .confirmed⟩], state := .isolated,
     expiry := none },
   { demoOrder with
     slot := 3, ref := 4, origin := .d, state := .expired, expiry := none }]

def demoCall : Call :=
  { slot := 0, ref := 1, segment := 2, reported := .b, effective := .a, corroborated := true, first := 5,
    last := 5, merged := 1, state := .new, crew := none, level := 0, deadline := some 30, links := [1] }

def demoCalls : List Call :=
  [demoCall,
   { demoCall with
     slot := 1, ref := 2, segment := 1, reported := .c, effective := .c, state := .assigned
     crew := some 7, deadline := some 500 },
   { demoCall with
     slot := 2, ref := 3, segment := 1, effective := .b, state := .madeSafe, deadline := none }]

def demo : State :=
  { State.reset with
    now := 30
    model := some ⟨List.replicate 16 65#8, 1, 0⟩
    segments := demoSegments, valves := demoValves
    sources := [⟨0, some 0, .live, none⟩, ⟨1, none, .out, some .operator⟩]
    units := demoUnits, channels := demoChannels
    sweep := ⟨.idle, false, [], [0, 2], 5⟩
    cmdQueue := [⟨3, .close⟩, ⟨511, .close⟩]
    orders := demoOrders, nextOrderRef := 5, terminalSlots := [3]
    calls := demoCalls, nextCallRef := 4
    outages := [⟨0, 1, .unplanned, [1], 12, [1, 3, 4], 150, 400, .restoring⟩]
    nextOutageRef := 2, openedOutages := [0], customersOff := 150, awaitingRelight := 400
    presence := ⟨true, some 60, some 30, none⟩
    attnF := true
    store := none }

/-- A port with a request of a kind as its only waiting frame. -/
def offering (s : State) (p : Port) (k : RequestKind) (pl : List Byte) : State :=
  s.setPort p { PortBlock.reset with inbound := [⟨k.byte, 7#8, pl⟩] }

/-- The port may take the request, and it passes the common checks. -/
def meets (p : Port) (k : RequestKind) (pl : List Byte) : Bool :=
  decide ((offering demo p k pl).offers p k 7#8 pl []) && decide ((offering demo p k pl).passes p k pl)

/-- The state that a command leaves, where it answers one. -/
def after (c : Instr) (s : State) : Option State :=
  match exec c s with
  | .next t => some t
  | .fault _ => none
  | .refused _ => none

theorem test_demo_meetsEveryInvariant :
    demo.portsSound ∧ demo.noticesSound ∧ demo.outputsTrue ∧ demo.flashSound ∧ demo.engineSound ∧
    demo.valvesSound ∧ demo.interlockHolds ∧ demo.countsExact ∧ demo.callsSound ∧ demo.ordersSound ∧
    demo.outagesSound ∧ demo.channelsSound := by
  refine ⟨?_, ?_, ?_, ?_, ?_, ?_, ?_, ?_, ?_, ?_, ?_, ?_⟩ <;> decide +kernel

/-! ### Steps and invariants -/

/-- A step that changes the state, from one that meets every invariant. -/
theorem test_invariants_hypotheses :
    (match step { demo with pending := [.secondsCounterTick] } with
      | .next t => decide (t.now = 31 ∧ t.pending = [])
      | .fault _ => false
      | .refused _ => false) = true := by decide +kernel

theorem test_step_idles : (match step demo with
    | .next t => decide (t = demo) | .fault _ => false | .refused _ => false) = true := by
  decide +kernel

/-- The commands that a frame statement names, with their states: none places a model, and each clause is met. -/
theorem test_frames_hypotheses :
    placesModel .secondsCounterTick = false ∧ writesFlash .secondsCounterTick = false ∧
    writesStore .secondsCounterTick = false ∧ writesPresence .secondsCounterTick = false ∧
    writesMask .s .secondsCounterTick = false ∧ writesMask .d (.status .s) = false ∧
    touchesPort .s (.status .d) = false ∧ touchesPort .d (.status .s) = false ∧
    touchesPort .f (.status .s) = false ∧ writesUnits (.status .s) = false ∧
    writesSources (.status .s) = false ∧ writesCalls (.status .s) = false ∧
    writesOutages (.status .s) = false ∧ publishes (.status .s) = false ∧
    leavesOrders (.status .s) = true ∧ leavesValves (.status .s) = true ∧
    (after .secondsCounterTick demo).isSome = true ∧ (after (.status .s) demo).isSome = true := by
  decide +kernel

/-! ### Frames and numbers -/

theorem test_frame_hypotheses : ([] : List Byte).length ≤ 240 ∧
    (List.replicate 240 (1#8 : Byte)).length ≤ 240 :=
  ⟨Nat.zero_le _, Nat.le_of_eq List.length_replicate⟩

/-- The manual's worked conversion: R = 23,817 gives P = 207,245 and, from 207,000 with s = 3, F = 207,031. -/
theorem test_conversion_workedExample : convert 23817 3277 2583 = 207245 ∧
    filterStep 3 207000 207245 = 207031 := by decide

theorem test_conversion_hypotheses : (3277 ≤ 23817 ∧ 23817 ≤ 65535) ∧ 0 < 65535 ∧
    underFlag 0 65535 = true ∧ overFlag 65535 0 65535 = true := by decide

theorem test_filter_hypotheses : (0 : Nat) ≤ 4 ∧ filterStep 0 5 9 = 9 ∧ filterStep 4 1048575 0 ≤ 1048575 ∧
    filterStep 4 0 1048575 = 65536 := by decide

theorem test_limits_hypotheses :
    (demoChannel.loEnter ≤ demoChannel.loExit ∧ demoChannel.loExit < demoChannel.hiExit ∧
      demoChannel.hiExit ≤ demoChannel.hiEnter) ∧
    limitState demoChannel 1749 = .low ∧ limitState demoChannel 1750 = .normal ∧
    limitState { demoChannel with state := .low } 1850 = .low ∧
    limitState { demoChannel with state := .low } 1851 = .normal ∧
    limitState { demoChannel with state := .high } 2600 = .high ∧
    limitState { demoChannel with state := .high } 2599 = .normal := by decide

/-! ### Sweeps -/

def sweeping : State := { demo with sweep := { demo.sweep with flight := .actual (demo.inputs []) } }

theorem test_actualSweep_hypotheses : sweeping.sweep.flight = .actual (demo.inputs []) ∧
    sweeping.sweep.requests = [] ∧ demo.supplied (demo.inputs []) = [0, 1, 2, 3, 4] ∧
    (after .actualSweepComplete sweeping).any (fun t => t.sweep.number == 6) = true := by
  decide +kernel

/-- The sweep finds no segment supplied. Segment 0 is lost under order 2, which has an open outage of its own, segment 2
without a cause; there is room; and order 3 is ISOLATED with a region that the other sweep supplies. -/
def losing : State :=
  { demo with
    sweep := { demo.sweep with flight := .actual ⟨[], []⟩ }
    orders := demo.orders.map (fun o => if o.slot = 1 then { o with expectedOff := [0, 3] } else o)
    outages := [⟨0, 1, .order 2, [1], 12, [1, 3, 4], 150, 400, .restoring⟩] }

theorem test_attribution_ordersSound : losing.ordersSound := by decide +kernel

theorem test_attribution_outagesSound : losing.outagesSound := by decide +kernel

theorem test_attribution_hypotheses :
    losing.sweep.flight = .actual ⟨[], []⟩ ∧ losing.supplied ⟨[], []⟩ = [] ∧
    losing.lossCause 0 = .order 2 ∧ losing.lossCause 2 = .unplanned ∧
    losing.causesToOpen (losing.segments.filter (fun g => g.supply == .live)) = [.unplanned] ∧
    sweeping.orders.any (fun o => o.state == .isolated && o.region == [4]) = true ∧
    (after .actualSweepComplete losing).any (fun t =>
      t.outages.map (fun o => (o.cause, o.members)) == [(.order 2, [1, 3, 4, 0]), (.unplanned, [2])]) = true := by
  decide +kernel

/-- All 32 records are open, each for one segment, and the sweep finds segment 32 unsupplied, which an ISOLATED order
expects to be off. -/
def crowded : State :=
  let seg : Nat → Segment := fun i => ⟨i, .lp, 10, false, .noChannel, false, .live, 0, none, [], 0⟩
  { demo with
    segments := (List.range 32).map (fun i => { seg i with supply := .off, outage := some (i + 1) }) ++ [seg 32]
    sweep := { demo.sweep with flight := .actual ⟨[], []⟩ }
    orders := demo.orders.map (fun o => if o.slot = 2 then { o with expectedOff := [32] } else o)
    outages := (List.range 32).map (fun i => ⟨i, i + 1, .unplanned, [], 1, [i], 10, 0, .active⟩)
    openedOutages := List.range 32, nextOutageRef := 33, customersOff := 320, awaitingRelight := 0 }

theorem test_overflow_outagesSound : crowded.outagesSound := by decide +kernel

/-- Every record is open, so the group of order 3 joins the record opened most recently, which becomes MIXED (R150). -/
theorem test_overflow_hypotheses : crowded.ordersSound ∧
    crowded.causesToOpen (crowded.segments.filter (fun g => g.supply == .live)) = [.order 3] ∧
    (after .actualSweepComplete crowded).any (fun t =>
      (t.outage? 31).any (fun o => o.cause == .mixed && o.members == [31, 32]) &&
      t.latestOpen == t.outage? 31) = true := by decide +kernel

def planning (p : Port) (op : PlannedOp) : State :=
  { demo with
    sweep := { demo.sweep with flight := .planned ⟨p, op, 0, 1, [1]⟩ ⟨[], []⟩ }
    portS := { demo.portS with inService := some ⟨0x20#8, 7#8, false⟩ } }

theorem test_plannedProposal_hypotheses :
    (planning .s .propose).orderByRef? 1 = some demoOrder ∧ demoOrder.state = .proposed ∧
    ((planning .s .propose).port .s).inService = some ⟨0x20#8, 7#8, false⟩ := by decide +kernel

/-- The order of the request is EXPIRED, or its record is gone: WRONG_STATE, for a proposal and for a commit. -/
theorem test_plannedWrongState_hypotheses :
    (demo.orderByRef? 4).any (fun o => o.state != .proposed) = true ∧ demo.orderByRef? 9 = none ∧
    ([(3, 4), (8, 9)].all fun x => [PlannedOp.propose, .commit false [1] []].all fun op =>
      let s : State := { planning .s op with
        sweep := { demo.sweep with flight := .planned ⟨.s, op, x.1, x.2, []⟩ ⟨[], []⟩ } }
      (after .plannedSweepComplete s).any (fun t =>
        t.orders == s.orders && (t.port .s).replies.any (fun f => f.getD 3 0 == 9#8))) = true := by
  decide +kernel

/-- With no source in the inputs every segment is unsupplied, and the step's valve 1 has no holder. -/
theorem test_plannedCommit_hypotheses :
    let s := planning .s (.commit true [1] [⟨1, 0, .waiting⟩])
    s.ordersSound ∧ s.orderByRef? 1 = some demoOrder ∧ demoOrder.state = .proposed ∧
    (∀ i ∈ [1], i ∈ s.unsupplied (s.supplied ⟨[], []⟩)) ∧
    (s.port .s).inService = some ⟨0x20#8, 7#8, false⟩ ∧
    ((s.valve? 1).map (fun v => v.holder) = some none) := by decide +kernel

/-- The result byte with which a commit of order 1 is refused, in a state that meets what the statement asks of it. -/
def commitRefusal (s : State) : Option Byte :=
  bif decide s.ordersSound && s.orderByRef? 1 == some demoOrder && (s.port .s).inService.isSome &&
      s.valves.all (fun v => v.holder != some 1) then
    (after .plannedSweepComplete s).bind (fun t => (t.port .s).replies.head?.map (fun f => f.getD 3 0))
  else none

/-- Checks 2 to 4 of R97: a region segment supplied, the step's valve 6 held by another order, a priority consumer cut. -/
theorem test_refusedCommit_hypotheses :
    let supplied := planning .s (.commit true [1] [⟨1, 0, .waiting⟩])
    commitRefusal { supplied with sweep := { supplied.sweep with
      flight := .planned ⟨.s, .commit true [1] [⟨1, 0, .waiting⟩], 0, 1, [1]⟩ (demo.inputs []) } } = some 14#8 ∧
    commitRefusal (planning .s (.commit false [1] [⟨6, 0, .waiting⟩])) = some 11#8 ∧
    commitRefusal (planning .s (.commit false [1] [⟨1, 0, .waiting⟩])) = some 12#8 := by decide +kernel

/-- Check 5 of R97 on Port D: no call of class A linked, a priority consumer cut, 420 customers beyond the limit. -/
theorem test_refusedDispatchCommit_hypotheses :
    let commit := planning .d (.commit true [1] [⟨1, 0, .waiting⟩])
    let called := fun (s : State) => s.callByRef? 1 == some demoCall && demoCall.effective == .a
    (commit.orderByRef? 1).any (fun o => o.linkedCall == some 1) = true ∧ called commit = true ∧
    called { commit with calls := [] } = false ∧
    (commit.figures (commit.unsupplied (commit.supplied ⟨[], []⟩))).priorityCut = true ∧
    (let s : State := { commit with sweep := { commit.sweep with published := [1] } }
     s.figures (s.unsupplied (s.supplied ⟨[], []⟩)) = ⟨[0, 1, 2, 3, 4], [1], 420, false⟩ ∧
       s.timing.e1 < 420 ∧ s.presence.present = true) := by decide +kernel

theorem test_dispatchCommit_hypotheses :
    demo.dispatchCheck true demoOrder ⟨[1], [1], 420, false⟩ = some .overLimit ∧
    demo.dispatchCheck false demoOrder ⟨[1], [1], 420, false⟩ = none ∧
    demo.dispatchCheck true demoOrder ⟨[1], [1], 200, false⟩ = none := by decide +kernel

/-! ### Start, ports, notices -/

/-- A small image: HDR, two segments, a source, a unit with one channel, a REMOTE and a MANUAL valve and END (R197). -/
def demoImage : List Byte :=
  let body : List Byte :=
    [1#8, 19#8, 1#8, 0#8, 9#8] ++ List.replicate 16 65#8 ++
    [2#8, 5#8, 0#8, 2#8, 0#8, 0#8, 0#8] ++ [2#8, 5#8, 1#8, 3#8, 1#8, 164#8, 1#8] ++
    [3#8, 12#8, 0#8, 0#8, 2#8, 0#8, 1#8, 0#8, 2#8, 0#8, 20#8, 0#8, 90#8, 1#8] ++
    [3#8, 12#8, 0#8, 1#8, 1#8, 0#8, 1#8, 1#8, 1#8, 0#8, 0#8, 0#8, 0#8, 1#8] ++ [4#8, 2#8, 0#8, 0#8] ++
    [5#8, 5#8, 0#8, 0#8, 30#8, 1#8, 0#8] ++
    [6#8, 26#8, 0#8, 0#8, 1#8, 12#8, 205#8, 0#8, 64#8, 2#8, 0#8, 6#8, 214#8, 0#8, 7#8, 58#8,
      0#8, 10#8, 40#8, 0#8, 10#8, 190#8, 0#8, 0#8, 150#8, 0#8, 1#8, 44#8] ++ [15#8, 2#8]
  withCrc body

/-- The records of the small image. -/
def demoRecords : List ImageRecord :=
  [(1, [1#8, 0#8, 9#8] ++ List.replicate 16 65#8),
   (2, [0#8, 2#8, 0#8, 0#8, 0#8]), (2, [1#8, 3#8, 1#8, 164#8, 1#8]),
   (3, [0#8, 0#8, 2#8, 0#8, 1#8, 0#8, 2#8, 0#8, 20#8, 0#8, 90#8, 1#8]),
   (3, [0#8, 1#8, 1#8, 0#8, 1#8, 1#8, 1#8, 0#8, 0#8, 0#8, 0#8, 1#8]), (4, [0#8, 0#8]),
   (5, [0#8, 0#8, 30#8, 1#8, 0#8]),
   (6, [0#8, 0#8, 1#8, 12#8, 205#8, 0#8, 64#8, 2#8, 0#8, 6#8, 214#8, 0#8, 7#8, 58#8, 0#8, 10#8, 40#8,
     0#8, 10#8, 190#8, 0#8, 0#8, 150#8, 0#8, 1#8, 44#8]), (15, demoImage.drop (demoImage.length - 2))]

set_option maxRecDepth 20000 in
theorem test_goodImage_formatted : formatted (flashWriteSpan [] 0 demoImage) demoRecords ∧ crcStands demoRecords := by
  decide +kernel

theorem test_goodImage_recordChecks : noneFails demoRecords recordFails := by
  intro x hx why
  revert x
  cases why <;> simp only [recordFails] <;> decide +kernel

/-- Both segments are reached: segment 0 from the source, segment 1 through segment 0. -/
theorem test_goodImage_reached : reachedByAll demoRecords 0 ∧ reachedByAll demoRecords 1 := by
  have first : reachedByAll demoRecords 0 :=
    .seed (v := placedValve 0 [0#8, 0#8, 2#8, 0#8, 1#8, 0#8, 2#8, 0#8, 20#8, 0#8, 90#8, 1#8]) (q := 0)
      (by decide +kernel) (by decide +kernel) (by decide +kernel) (by decide +kernel)
  exact ⟨first,
    .join (v := placedValve 0 [0#8, 1#8, 1#8, 0#8, 1#8, 1#8, 1#8, 0#8, 0#8, 0#8, 0#8, 1#8]) (b := 0)
      (by decide +kernel) (by decide +kernel) first (by decide +kernel)⟩

theorem test_goodImage_crossChecks : noneFails demoRecords crossFails := by
  have ids : ∀ x ∈ demoRecords.zipIdx, x.1.1 = 0x02 → u8 x.1.2 0 = 0 ∨ u8 x.1.2 0 = 1 := by decide +kernel
  intro x hx why
  cases why
  case orphan =>
    rintro ⟨tag, far, -⟩
    rcases ids x hx tag with h | h <;> rw [h] at far
    · exact far test_goodImage_reached.1
    · exact far test_goodImage_reached.2
  all_goals
    revert x
    simp only [crossFails]
    decide +kernel

def loading : State := { State.reset with flash := flashWriteSpan [] 0 demoImage }

set_option maxRecDepth 20000 in
theorem test_image_hypotheses : (match validate loading.flash 0 with
    | .ok img => img.segments.length == 2 && img.channels.length == 1 && img.valves.length == 2 &&
        img.units.length == 1 && img.sources.length == 1
    | .error _ => false) = true := by decide +kernel

theorem test_load_hypotheses : loading.store = some .coldStartLoad ∧
    State.reset.store = some .coldStartLoad ∧
    (match validate State.reset.flash 0 with
      | .ok _ => false | .error bad => bad == (0, .format)) = true := by
  decide +kernel

theorem test_presence_hypotheses : demo.presence.present = true ∧ demo.presence.deadline = some 60 ∧
    ¬ 60 ≤ demo.now ∧ 60 ≤ ({ demo with now := 60 } : State).now := by decide

def transferring (p : Port) (code status : Byte) : State :=
  demo.setPort p { demo.port p with transfer := some ⟨code, status, none⟩ }

theorem test_transfer_hypotheses : (demo.port .s).transfer = none ∧
    ((transferring .s 0x30#8 0#8).port .s).transfer = some ⟨0x30#8, 0#8, none⟩ ∧
    ((transferring .d 0x00#8 0#8).port .d).transfer = some ⟨0x00#8, 0#8, none⟩ := by decide

/-- A read transfer drives its status byte, the frame it chose, and 0x00 after the frame's end. -/
theorem test_drives_hypotheses :
    let s := demo.setPort .s { demo.port .s with transfer := some ⟨0x30#8, 0x90#8, some [1#8, 2#8]⟩ }
    (s.port .s).transfer = some ⟨0x30#8, 0x90#8, some [1#8, 2#8]⟩ ∧
    (s.port .s).transfer.any (fun x => (List.range 4).map x.drives == [0x90#8, 1#8, 2#8, 0#8]) = true := by
  decide

/-- A frame of 6 bytes with a good CRC, and the four ways of R184: bad, PORT_RESET, no room, admitted. -/
theorem test_writeTransfer_hypotheses :
    let frame := requestFrame 0x01#8 7#8 []
    let reset := requestFrame 0x02#8 7#8 []
    crc16 frame = 0#16 ∧ frame.length = 6 ∧ frame.getD 0 0 = 0xA5#8 ∧ frame.getD 1 0 ≠ 0x02#8 ∧
    crc16 reset = 0#16 ∧ reset.getD 1 0 = 0x02#8 ∧ crc16 (frame.take 5) ≠ 0#16 ∧
    (0xE7#8 : Byte) &&& 0x18#8 = 0#8 ∧ (0x08#8 : Byte) &&& 0x18#8 ≠ 0#8 ∧
    ((transferring .s 0xC0#8 0x08#8).port .s).transfer = some ⟨0xC0#8, 0x08#8, none⟩ := by
  decide +kernel

/-- A reset of Port S in presence, and one in absence, which raises SUPERVISORY_PRESENT (R161). -/
theorem test_portReset_hypotheses :
    let s := transferring .s 0xC0#8 0x08#8
    (s.port .s).transfer = some ⟨0xC0#8, 0x08#8, none⟩ ∧ s.presence.present = true ∧
    (let away : State := { s with presence := ⟨false, none, some 3, some 20⟩ }
     (away.port .s).transfer = some ⟨0xC0#8, 0x08#8, none⟩ ∧
     (after (.portReset .s 7#8) away).any (fun t => t.presence.lastAdmission == some 30 &&
       t.noticesD.queue.any (fun e => e.kind == .supervisoryPresent && e.detail == some (.time 20)))) := by
  decide +kernel

/-- An unknown kind, a kind that the port may not send, a request without a model, and one of the wrong length. -/
theorem test_commonChecks_hypotheses :
    RequestKind.ofCode 0x99 = none ∧ requestCommand .logCall .s = some (.logCall .s) ∧
    (offering demo .s .logCall []).offers .s .logCall 7#8 [] [] ∧ demo.permits .s .logCall = false ∧
    (let s : State := { demo with model := none }
     s.permits .s .readTable = true ∧ servedWithoutModel .readTable = false) ∧
    demo.permits .d .logCall = true ∧ lengthFits .logCall [] = false ∧
    demo.permits .f .unitReport = true ∧ lengthFits .unitReport [] = false := by decide +kernel

/-- Class 9 is refused BAD_VALUE: the reply's result byte is 7. -/
theorem test_refusal_hypotheses :
    let s := offering demo .d .logCall [1#8, 9#8]
    requestCommand .logCall .d = some (.logCall .d) ∧ s.offers .d .logCall 7#8 [1#8, 9#8] [] ∧
    (after (.logCall .d) s).any (fun t => (t.port .d).replies.any (fun f => f.getD 3 0 == 7#8)) = true := by
  decide +kernel

theorem test_status_hypotheses : meets .s .status [] = true ∧ demo.now < 4294967296 := by decide +kernel

/-- A record and a list reply, and one payload for each field that READ_TABLE checks. -/
theorem test_readTable_hypotheses : meets .s .readTable [7#8, 2#8, 0#8, 1#8, 1#8, 0#8, 0#8] = true ∧
    demo.callByRef? 1 = some demoCall ∧ demoCall.links.length = 1 ∧ demo.valve? 510 = none ∧
    (demo.readTable [7#8, 2#8, 0#8, 1#8, 1#8, 0#8, 1#8]).1 = .done ∧
    (demo.readTable [7#8, 2#8, 0#8, 1#8, 1#8, 0#8, 2#8]).1 = .badValue ∧
    (demo.readTable [13#8, 1#8, 0#8, 0#8, 0#8, 0#8, 0#8]).1 = .badValue ∧
    (demo.readTable [2#8, 1#8, 1#8, 255#8, 0#8, 0#8, 0#8]).1 = .done ∧
    (demo.readTable [12#8, 1#8, 0#8, 0#8, 0#8, 0#8, 0#8]).1 = .done := by decide +kernel

/-- Every table shows a record of the demo network, and each way of addressing finds none somewhere. -/
theorem test_shown_hypotheses :
    (List.range 12).all (fun i => (demo.shown (i + 1) 1 (if i = 8 then 1 else 0)).isSome) = true ∧
    ([6, 7, 8].all fun i => (demo.shown i 2 1).isSome) = true ∧
    demo.shown 1 1 255 = none ∧ demo.shown 6 2 9 = none ∧ demo.shown 9 1 0 = none := by decide +kernel

/-- A list of 230 members is carried 200 from its start, 30 from position 200, none from its end (R16). -/
theorem test_longList_hypotheses :
    let s : State := { demo with
      outages := [⟨7, 912, .unplanned, [], 0, List.range 230, 0, 0, .active⟩] }
    let reply : List Byte → List Byte := fun start =>
      (s.readTable ([8#8, 2#8, 3#8, 144#8, 1#8] ++ start)).2.take 12
    (s.shown 8 2 912).any (fun x => x.lists.map (fun l => (l.page, l.entries.length)) ==
      [(200, 230), (16, 0)]) = true ∧
    reply [0#8, 0#8] = [8#8, 3#8, 144#8, 3#8, 144#8, 1#8, 0#8, 230#8, 0#8, 0#8, 0#8, 200#8] ∧
    reply [0#8, 200#8] = [8#8, 3#8, 144#8, 3#8, 144#8, 1#8, 0#8, 230#8, 0#8, 200#8, 0#8, 30#8] ∧
    reply [0#8, 230#8] = [8#8, 3#8, 144#8, 3#8, 144#8, 1#8, 0#8, 230#8, 0#8, 230#8, 0#8, 0#8] := by
  decide +kernel

theorem test_nextCall_hypotheses : meets .d .nextCall [] = true ∧ demo.dispatchQueue = [demoCall] ∧
    demoCall.deadline = some 30 ∧ ({ demo with calls := [] } : State).dispatchQueue = [] := by
  decide +kernel

/-- A raise that the mask withholds, one that coalesces, one that is appended, and one that finds a full queue. -/
theorem test_raise_hypotheses :
    let r : Raise := ⟨.valveFault, 3, none⟩
    let full : List NoticeEntry := (List.range 32).map (fun i => ⟨.valveMoved, i, 0, 1, none⟩)
    r.kind ∈ [NoticeKind.valveFault] ∧ r.kind ∉ ([] : List NoticeKind) ∧
    (∃ e ∈ [(⟨.valveFault, 3, 0, 1, none⟩ : NoticeEntry)], e.kind = r.kind ∧ e.subject = r.subject) ∧
    (∀ e ∈ full, ¬ (e.kind = r.kind ∧ e.subject = r.subject)) ∧ 32 ≤ full.length := by decide

theorem test_noticeRequests_hypotheses : meets .s .pullNotice [] = true ∧
    meets .d .setNoticeMask [2#8, 1#8, 22#8] = true ∧ meets .d .setNoticeMask [1#8, 23#8] = true := by
  decide +kernel

/-! ### Orders -/

/-- A proposal on segment 2 with the automatic region, and the four refusals of R90. -/
theorem test_proposal_hypotheses :
    meets .d .proposeIsolation [2#8, 0#8, 1#8, 1#8, 0#8] = true ∧ demo.engineSound ∧
    (demo.formRegion true 2 []).isSome = true ∧ demo.orderSlot = some 4 ∧
    meets .d .proposeIsolation [2#8, 0#8, 1#8, 2#8, 0#8] = true ∧
    meets .d .proposeIsolation [2#8, 0#8, 1#8, 0#8, 1#8, 2#8, 0#8, 0#8] = true ∧
    ¬ (∀ x ∈ stepsOf [2#8, 0#8, 1#8, 0#8, 1#8, 2#8, 0#8, 0#8] 5 1, x.valve ≤ 511 ∧ x.rank ≤ 7) ∧
    meets .d .proposeIsolation [9#8, 0#8, 0#8, 0#8, 0#8] = true ∧ demo.segment? 9 = none ∧
    meets .d .proposeIsolation [2#8, 0#8, 0#8, 0#8, 1#8, 0#8, 5#8, 7#8] = true ∧
    demo.formRegion false 2 [⟨5, 7, .waiting⟩] = none ∧
    ({ demo with orders := (List.range 16).map (fun k => { demoOrder with slot := k, ref := k + 1 }),
                 terminalSlots := [] } : State).orderSlot = none := by decide +kernel

/-- All 16 slots are used: that of the record terminal earliest is reclaimed, and with none terminal there is none. -/
theorem test_orderSlot_hypotheses :
    let used : State := { demo with
      orders := (List.range 16).map (fun k =>
        if k = 5 ∨ k = 9 then { demoOrder with slot := k, ref := k + 1, state := .cancelled, expiry := none }
        else { demoOrder with slot := k, ref := k + 1 })
      terminalSlots := [9, 5] }
    used.ordersSound ∧ used.orderSlot = some 9 := by decide +kernel

/-- A region of the target alone; and one that widens past valve 5, which is in FAULT. -/
theorem test_expansion_hypotheses : demo.formRegion true 2 [] = some ([2], [⟨2, 0, .waiting⟩]) ∧
    (demo.formRegion true 1 []).map (fun x => x.1) = some [1, 4] ∧
    (demo.valves.map (fun v => v.id)).Pairwise (· < ·) := by decide +kernel

/-- Boundary expansion fails at a source, at a 17th segment, and at a boundary of no or of more than 32 valves; 16 segments
are not too many. -/
theorem test_expansion_fails :
    let link : Nat → Bool → Valve := fun k fit =>
      { demoValve with id := k, endA := .segment k, endB := .segment (k + 1), operable := fit }
    let net : List Valve → State := fun vs => { demo with valves := vs }
    (net [{ demoValve with operable := false }]).formRegion true 0 [] = none ∧
    (net ((List.range 17).map (fun k => link k (k == 16)))).formRegion true 0 [] =
      none ∧
    ((net ((List.range 16).map (fun k => link k (k == 15)))).formRegion true 0 []).any
      (fun x => x.1.length == 16 && x.2 == [⟨15, 0, .waiting⟩]) = true ∧
    demo.formRegion true 9 [] = none ∧
    (net ((List.range 33).map (fun k => { demoValve with id := k }))).formRegion true 0 [] = none := by
  decide +kernel

theorem test_commit_hypotheses : meets .d .commitOrder [0#8, 1#8, 1#8] = true ∧
    meets .d .commitOrder [0#8, 1#8, 2#8] = true ∧
    demo.orderByRef? 1 = some demoOrder ∧ demoOrder.figuresPending = false ∧
    (demo.formRegion false 1 demoOrder.steps).isSome = true ∧
    meets .d .commitOrder [0#8, 9#8, 0#8] = true ∧ demo.orderByRef? 9 = none ∧
    meets .d .commitOrder [0#8, 2#8, 0#8] = true ∧
    (demo.orderByRef? 2).any (fun o => o.state == .executing) = true ∧
    ({ demo with valves := [] } : State).formRegion false 1 demoOrder.steps = none := by decide +kernel

/-- Order 1 is PROPOSED with origin S, order 2 EXECUTING with a CONFIRMED step, order 3 ISOLATED. -/
theorem test_cancel_hypotheses : meets .s .cancelOrder [0#8, 1#8] = true ∧
    meets .d .cancelOrder [0#8, 1#8] = true ∧ meets .s .cancelOrder [0#8, 9#8] = true ∧
    meets .s .cancelOrder [0#8, 2#8] = true ∧ meets .s .cancelOrder [0#8, 3#8] = true ∧
    demo.ordersSound ∧ demoOrder.origin = .s ∧
    (demo.orderByRef? 2).any (fun o => o.state == .executing && o.region == [3]) = true ∧
    (demo.segment? 3).any (fun g => g.unsafeA == 0) = true ∧
    (demo.orderByRef? 3).any (fun o => o.state == .isolated) = true ∧
    (demo.segment? 2).any (fun g => decide (0 < g.unsafeA)) = true := by decide +kernel

theorem test_restore_hypotheses : meets .s .beginRestore [0#8, 3#8] = true ∧
    meets .s .beginRestore [0#8, 1#8] = true ∧ meets .s .beginRestore [0#8, 9#8] = true ∧
    (demo.orderByRef? 3).any (fun o => o.state == .isolated && o.region == [4]) = true ∧
    (demo.segment? 4).any (fun g => g.unsafeA == 0) = true ∧
    (let unsafeHere : State := { demo with segments := demo.segments.map (fun g => { g with unsafeA := 1 }) }
     (unsafeHere.segment? 4).any (fun g => g.unsafeA == 1) = true) := by decide +kernel

/-- Order 2's decay deadline is now, with its channel not fresh in the window; a fresh channel gives LETBY. -/
theorem test_orderDeadlines_hypotheses : demo.order? 0 = some demoOrder ∧ demoOrder.expiry = some 910 ∧
    demo.now < 910 ∧ 910 ≤ ({ demo with now := 910 } : State).now ∧
    (demo.order? 1).any (fun o => o.state == .executing && o.decayDeadline == some 30 &&
      o.decayList == [⟨1, 0, false⟩]) = true ∧
    (demo.channel? 1 0).any (fun c => !c.fresh) = true ∧ demoChannel.fresh = true ∧
    demoChannel.updated = some 28 ∧ 30 ≤ 28 + demo.timing.decayWindow := by decide +kernel

/-- With a fresh channel in its decay list the order becomes LETBY, and LETBY names the channel (R105, R114). -/
theorem test_letby_hypotheses :
    let s : State := { demo with channels := demo.channels.map (fun c =>
      if c.unit = 1 then { c with state := .normal, updated := some 28 } else c) }
    (s.order? 1).any (fun o => o.decayList == [] ++ ⟨1, 0, false⟩ :: []) = true ∧
    (s.channel? 1 0).any (fun c => c.fresh && c.updated == some 28) = true ∧ 30 ≤ 28 + s.timing.decayWindow ∧
    (after (.decayDeadlineExpiry 1) s).any (fun t => (t.order? 1).any (fun o => o.state == .letby) &&
      (t.noticesS.queue.drop 1).map (fun e => (e.kind, e.detail)) ==
        [(.letby, some (.channel 4)), (.orderState, some (.orderState .letby none))]) = true := by decide +kernel

/-! ### Valves and sources -/

/-- Valves at rest, awaiting pull and in travel, and the refusals of R76. -/
theorem test_operate_hypotheses :
    (demo.segments.map (fun g => g.id)).Pairwise (· < ·) ∧
    meets .s .valveOperate [0#8, 0#8, 1#8] = true ∧ meets .s .valveOperate [0#8, 0#8, 2#8] = true ∧
    meets .s .valveOperate [0#8, 3#8, 1#8] = true ∧ meets .s .valveOperate [1#8, 255#8, 1#8] = true ∧
    meets .s .valveOperate [0#8, 4#8, 1#8] = true ∧ meets .s .valveOperate [0#8, 4#8, 2#8] = true ∧
    (demo.valve? 0).any (fun v => v.position == .open_ && v.window.isNone && v.prior.isNone) = true ∧
    (demo.valve? 3).any (fun v => v.prior == some .open_) = true ∧
    (demo.valve? 511).any (fun v => v.prior == some .unknown) = true ∧
    (demo.valve? 4).any (fun v => v.window == some (25, 30) && v.position == .opening) = true ∧
    meets .s .valveOperate [2#8, 0#8, 1#8] = true ∧ meets .s .valveOperate [0#8, 0#8, 3#8] = true ∧
    meets .s .valveOperate [0#8, 99#8, 1#8] = true ∧ demo.valve? 99 = none ∧
    (demo.valve? 5).any (fun v => v.position == .fault) = true ∧
    (demo.valve? 6).any (fun v => v.holder == some 2 && v.operable) = true := by decide +kernel

/-- An OPEN is interlocked at segment 2, whose count is 1. -/
theorem test_operateInterlocked_hypotheses :
    let v := { demoValve with endB := .segment 2 }
    demo.interlocked v = true ∧ demo.interlocked demoValve = false := by decide +kernel

theorem test_valveRequests_hypotheses : meets .s .valveAssert [1#8, 255#8, 5#8] = true ∧
    (demo.valve? 511).any (fun v => v.holder.isNone) = true ∧
    meets .d .crewValveReport [0#8, 2#8, 2#8] = true ∧
    (demo.valve? 2).any (fun v => v.kind == .manual && v.holder.isNone) = true ∧
    meets .d .crewValveReport [0#8, 0#8, 1#8] = true ∧
    (demo.valve? 0).any (fun v => v.kind == .remote) = true ∧
    meets .s .valveMark [0#8, 0#8, 2#8] = true := by decide +kernel

/-- Valve 6, held for a step of order 2, in a command state, with the order and the step in a state. -/
def holding (v : Valve) (st : OrderState) (xs : StepState) : State :=
  { demo with
    valves := demo.valves.map (fun x => if x.id = 6 then
      { x with
        position := v.position, window := v.window, prior := v.prior, pendingCmd := v.pendingCmd } else x)
    orders := demo.orders.map (fun o => if o.slot = 1 then
      { o with
        state := st, steps := [⟨6, 1, xs⟩, ⟨5, 2, if st = .executing then .waiting else .confirmed⟩], decayDeadline := none, decayList := []
        reopening := some 1 } else o) }

/-- The answer to a position, if the state meets what the statements of held valves ask of it. -/
def answerTo (s : State) (q : Position) (withdrawn : Bool) : Option StepAnswer :=
  match s.valve? 6, s.order? 1 with
  | some v, some o =>
    match o.steps.find? (fun y => y.valve == v.id) with
    | some x => bif decide s.valvesSound && decide s.ordersSound && decide (s.heldBy v o x) then some (o.answer x q withdrawn)
      else none
    | none => none
  | _, _ => none

/-- Each answer of R101, R107, R109 and R111, at a held valve at rest, awaiting pull and in travel. -/
theorem test_heldValve_hypotheses :
    let rest := fun q => { demoValve with position := q }
    let awaits := { demoValve with position := .closing, prior := some .open_, pendingCmd := some .close }
    let travels := { demoValve with position := .closing, window := some (25, 31) }
    let opens := { demoValve with position := .opening, prior := some .closed, pendingCmd := some .open_ }
    answerTo (holding travels .executing .issued) .closed false = some .confirms ∧
    answerTo (holding travels .executing .issued) .open_ false = some .leaves ∧
    answerTo (holding awaits .executing .issued) .open_ true = some .fails ∧
    answerTo (holding (rest .closed) .executing .confirmed) .open_ false = some .recloses ∧
    answerTo (holding (rest .fault) .breached .failed) .closed true = some .confirms ∧
    answerTo (holding (rest .closed) .breached .confirmed) .unknown false = some .recloses ∧
    answerTo (holding (rest .closed) .isolated .confirmed) .open_ false = some .breaches ∧
    answerTo (holding (rest .closed) .letby .confirmed) .closed false = some .leaves ∧
    answerTo demo .unknown true = some .breaches ∧
    answerTo (holding opens .restoring .issued) .open_ true = some .reopens ∧
    answerTo (holding opens .restoring .issued) .closed true = some .fails ∧
    answerTo (holding (rest .closed) .restoring .blocked) .open_ false = some .reopens ∧
    answerTo (holding (rest .open_) .restoring .reopened) .closed false = some .leaves := by decide +kernel

/-- An assertion takes valve 0 into CLOSED, another takes valve 1 out of it, and a request takes source 0 OUT: each starts an
actual sweep (R5, R50). -/
theorem test_sweepAsked_hypotheses :
    ([(RequestKind.valveAssert, Instr.valveAssert .s, [0#8, 0#8, 2#8]), (.valveAssert, .valveAssert .s, [0#8, 1#8, 1#8]),
      (.setSource, .setSource .s, [0#8, 2#8])].all fun x =>
      (after x.2.1 (offering demo .s x.1 x.2.2)).any (fun t =>
        (t.valves.map Valve.passes, t.sources.map (fun q => q.state)) !=
          (demo.valves.map Valve.passes, demo.sources.map (fun q => q.state)) &&
        decide (t.sweep.flight = .actual (t.inputs [])))) = true := by decide +kernel

/-- Valve 6 is asserted OPEN: BREACH and ORDER_STATE BREACHED of an ISOLATED order, BREACH alone of a BREACHED one. -/
theorem test_breachNotices_hypotheses :
    ([(OrderState.isolated, [NoticeKind.breach, .orderState]), (.breached, [.breach])].all fun x =>
      let s := holding { demoValve with position := .closed } x.1 .confirmed
      (after (.valveAssert .s) (offering s .s .valveAssert [0#8, 6#8, 1#8])).any (fun t =>
        (t.noticesD.queue.drop 1).map (fun e => (e.kind, e.subject)) == x.2.map (fun k => (k, 2)))) = true := by
  decide +kernel

/-- The restored order's valves stand at rest with nothing in hand, and valve 5, of the highest rank, is asked to OPEN; the
cancelled order's valve 6 awaits pull, and returns to its prior position (R79, R110). -/
theorem test_stepCommands_hypotheses :
    (let s := holding { demoValve with position := .closed } .isolated .confirmed
     let held : State := { s with valves := s.valves.map (fun v =>
       if v.id = 5 then { v with position := .closed, holder := some 2, operable := true } else v) }
     decide held.valvesSound && decide held.ordersSound &&
     (after (.beginRestore .s) (offering held .s .beginRestore [0#8, 2#8])).any (fun t =>
       (t.order? 1).any (fun o => o.steps.any (fun x => x == ⟨5, 2, .issued⟩)) &&
       (t.valve? 5).any (fun v => v.position == .opening && v.prior == some .closed))) = true ∧
    (let s := holding { demoValve with position := .closing, prior := some .open_, pendingCmd := some .close }
        .executing .issued
     decide s.valvesSound && decide s.ordersSound &&
     (after (.cancelOrder .s) (offering s .s .cancelOrder [0#8, 2#8])).any (fun t =>
       (t.valve? 6).any (fun v => v.position == .open_ && v.prior.isNone && v.holder.isNone))) = true := by
  decide +kernel

/-- Valve 5, whose step is ISSUED, awaits the pull of a CLOSE while the step of valve 6 is CONFIRMED: a cancel drops the one and
reopens the other (R113). In the BREACHED order valve 6 awaits the pull of its CLOSE, which a restoration withdraws; rank 2
is reopened first (R109). -/
theorem test_withdrawal_hypotheses :
    (let s := holding { demoValve with position := .closed } .executing .confirmed
     let two : State := { s with
       valves := s.valves.map (fun v => if v.id = 5 then { v with
         position := .closing, prior := some .open_, pendingCmd := some .close, holder := some 2, operable := true } else v)
       orders := s.orders.map (fun o => if o.slot = 1 then
         { o with steps := [⟨6, 1, .confirmed⟩, ⟨5, 2, .issued⟩], reopening := none } else o) }
     decide two.valvesSound && decide two.ordersSound && (two.valve? 5).any Valve.hasCloseInHand &&
     (after (.cancelOrder .s) (offering two .s .cancelOrder [0#8, 2#8])).any (fun t =>
       (t.order? 1).any (fun o => o.state == .restoring && o.steps == [⟨6, 1, .issued⟩]) &&
       (t.valve? 5).any (fun v => v.position == .open_ && v.prior.isNone && v.holder.isNone))) = true ∧
    (let s := holding { demoValve with position := .closing, prior := some .open_, pendingCmd := some .close } .breached .issued
     decide s.valvesSound && decide s.ordersSound && (s.valve? 6).any Valve.hasCloseInHand &&
     (after (.beginRestore .s) (offering s .s .beginRestore [0#8, 2#8])).any (fun t =>
       (t.order? 1).any (fun o => o.reopening == some 2) &&
       (t.valve? 6).any (fun v => v.position == .open_ && v.prior.isNone && v.holder == some 2))) = true := by
  decide +kernel

/-- VALVE_ASSERT, CREW_VALVE_REPORT and VALVE_MARK with a value outside the list, an id above 511 and an absent valve. -/
theorem test_valveChecks_hypotheses :
    ([[0#8, 0#8, 9#8], [2#8, 0#8, 1#8], [0#8, 99#8, 1#8]].all fun pl =>
      meets .s .valveAssert pl && meets .d .crewValveReport pl && meets .s .valveMark pl) = true ∧
    demo.valve? 99 = none := by decide +kernel

/-- A held valve: where a report leaves it, and its fault before the earliest time and at the deadline. -/
theorem test_heldReport_hypotheses :
    let s := holding { demoValve with position := .closing, window := some (25, 30) } .executing .issued
    (s.valve? 6).any (fun v => v.positionAfter 25 2 == .closed && v.positionAfter 24 2 == .fault &&
      v.positionAfter 25 1 == .closing && v.window == some (25, 30)) = true ∧
    (s.order? 1).any (fun o => o.faultAnswer ⟨6, 1, .issued⟩ == .fails &&
      o.answer ⟨6, 1, .issued⟩ .fault false == .leaves) = true ∧
    (after (.travelDeadlineExpiry 6) s).any (fun t =>
      (t.order? 1).any (fun o => o.steps == [⟨6, 1, .failed⟩, ⟨5, 2, .waiting⟩])) = true ∧
    (offering s .f .positionReport [0#8, 6#8, 2#8]).offersReport .positionReport 7#8 [0#8, 6#8, 2#8] [] := by
  decide +kernel

/-- A VALVE_ASSERT that only clears a travel window withdraws no command: the ISSUED step stays as it was (R67, R101). -/
theorem test_assertInTravel_isNoWithdrawal :
    let s := holding { demoValve with position := .closing, window := some (25, 31) } .executing .issued
    (after (.valveAssert .s) (offering s .s .valveAssert [0#8, 6#8, 1#8])).any (fun t =>
      (t.order? 1).any (fun o => o.steps == [⟨6, 1, .issued⟩, ⟨5, 2, .waiting⟩]) &&
      (t.valve? 6).any (fun v => v.position == .open_ && v.window.isNone)) = true := by decide +kernel

/-- Valve 6 awaits the pull of an OPEN for a step of the RESTORING order 2. -/
def reopening : State :=
  holding { demoValve with position := .opening, prior := some .closed, pendingCmd := some .open_ } .restoring .issued

/-- A call of class A on segment 3 withdraws the OPEN, and the step is BLOCKED (R81, R111). -/
theorem test_blockedStep_hypotheses : reopening.ordersSound ∧ reopening.interlockHolds ∧
    (reopening.valve? 6).any Valve.hasOpenInHand = true ∧
    (reopening.orders.any fun o => o.steps.any fun x => x.state == .issued && o.isReopening x) = true ∧
    (after (.logCall .d) (offering reopening .d .logCall [3#8, 1#8])).any (fun t =>
      (t.order? 1).any (fun o => o.steps.any (fun x => x == ⟨6, 1, .blocked⟩))) = true := by
  refine ⟨?_, ?_, ?_, ?_, ?_⟩ <;> decide +kernel

/-- The only call of class A on segment 3 is made safe, and the BLOCKED step of valve 6 is issued afresh (R82, R111). -/
theorem test_clearance_hypotheses :
    let blocked := holding { demoValve with position := .closed } .restoring .blocked
    let s := offering { blocked with
      segments := blocked.segments.map (fun g => if g.id = 3 then { g with unsafeA := 1 } else g)
      calls := [{ demoCall with segment := 3, state := .assigned }] } .d .callProgress [0#8, 1#8, 4#8]
    s.offers .d .callProgress 7#8 [0#8, 1#8, 4#8] [] ∧ s.passes .d .callProgress [0#8, 1#8, 4#8] ∧
    decide s.ordersSound = true ∧ decide s.valvesSound = true ∧
    (s.orders.any fun o => o.steps.any fun x => x.state == .blocked && o.isReopening x) = true ∧
    (after (.callProgress .d) s).any (fun t =>
      (t.order? 1).any (fun o => o.steps.any (fun x => x == ⟨6, 1, .issued⟩)) &&
      (t.valve? 6).any (fun v => v.position == .opening)) = true := by decide +kernel

theorem test_setSource_hypotheses : meets .s .setSource [0#8, 2#8] = true ∧
    meets .s .setSource [0#8, 1#8] = true ∧ meets .s .setSource [16#8, 1#8] = true ∧
    meets .s .setSource [15#8, 1#8] = true ∧ demo.source? 15 = none ∧
    demo.source? 0 = some ⟨0, some 0, .live, none⟩ ∧
    demo.source? 1 = some ⟨1, none, .out, some .operator⟩ ∧
    (let tripped : State := { demo with units := [⟨0, 30, 2, some 0, .fresh, 58, true, some 28⟩] }
     (tripped.unit? 0).any (fun u => u.tripped) = true) := by decide +kernel

/-- The lines of R69: in travel before and at the earliest time, awaiting pull, at rest; and reports discarded. -/
theorem test_positionReport_hypotheses :
    (offering demo .f .positionReport [0#8, 4#8, 1#8]).offersReport .positionReport 7#8 [0#8, 4#8, 1#8] [] ∧
    (offering demo .f .positionReport [0#8, 4#8, 1#8]).passes .f .positionReport [0#8, 4#8, 1#8] ∧
    (demo.valve? 4).any (fun v => v.window == some (25, 30) && v.holder.isNone) = true ∧
    25 ≤ demo.now ∧ ({ demo with now := 24 } : State).now < 25 ∧
    (demo.valve? 3).any (fun v => v.prior == some .open_ && v.position == .closing) = true ∧
    (demo.valve? 0).any (fun v => v.position == .open_ && v.window.isNone && v.prior.isNone) = true ∧
    (demo.valve? 5).any (fun v => v.position == .fault) = true ∧
    (demo.valve? 2).any (fun v => v.kind == .manual) = true ∧ u8 [0#8, 4#8, 7#8] 2 = 7 := by
  decide +kernel

theorem test_pull_hypotheses : meets .f .pullCommand [] = true ∧
    demo.cmdQueue = [⟨3, .close⟩, ⟨511, .close⟩] ∧ (demo.valve? 3).isSome = true ∧
    ({ demo with cmdQueue := [] } : State).cmdQueue = [] := by decide +kernel

theorem test_travelDeadline_hypotheses :
    (demo.valve? 4).any (fun v => v.id == 4 && v.window == some (25, 30) && v.position != .fault) = true ∧
    30 ≤ demo.now ∧ ({ demo with now := 29 } : State).now < 30 := by decide +kernel

/-! ### Calls, outages, store, pressure -/

/-- A merge into call 1, a new call on segment 3, and the refusals of R119. -/
theorem test_logCall_hypotheses : meets .d .logCall [2#8, 1#8] = true ∧ demo.callsSound ∧
    demo.mergeTarget 2 = some demoCall ∧ meets .d .logCall [3#8, 3#8] = true ∧
    (demo.segment? 3).isSome = true ∧ demo.mergeTarget 3 = none ∧ demo.callSlot = some 3 ∧
    meets .d .logCall [3#8, 1#8] = true ∧
    (let late := offering { demo with now := 5000 } .d .logCall [2#8, 1#8]
     late.mergeTarget 2 = none ∧ (late.segment? 2).any (fun g => g.unsafeA == 1) = true ∧
     late.offers .d .logCall 7#8 [2#8, 1#8] [] ∧ late.passes .d .logCall [2#8, 1#8]) ∧
    meets .d .logCall [3#8, 0#8] = true ∧ meets .d .logCall [9#8, 1#8] = true ∧ demo.segment? 9 = none ∧
    ({ demo with calls := (List.range 128).map (fun k => { demoCall with slot := k }) } : State).callSlot =
      none := by decide +kernel

/-- A report while a RELOAD is in progress; and all 128 slots used, where that of the only CLOSED call is reclaimed. -/
theorem test_logCallSlot_hypotheses :
    (let s := offering { demo with store := some .reload } .d .logCall [2#8, 1#8]
     s.offers .d .logCall 7#8 [2#8, 1#8] [] ∧ s.passes .d .logCall [2#8, 1#8] ∧ (s.segment? 2).isSome = true ∧
     s.store = some .reload) ∧
    (let used : State := { demo with
      calls := (List.range 128).map (fun k => { demoCall with
        slot := k, ref := k + 1, effective := .b, state := if k = 77 then .closed else .new
        deadline := if k = 77 then none else some 30 })
      closedCalls := [77], segments := demo.segments.map (fun g => { g with unsafeA := 0 }) }
     used.callsSound ∧ used.countsExact ∧ used.callSlot = some 77) := by
  refine ⟨?_, ?_, ?_, ?_⟩ <;> decide +kernel

/-- A report of class A merges into a call of class B: the raise moves its deadline to 5 + 20, which has come (R124). -/
theorem test_mergeRaise_hypotheses :
    let calm : State := { demo with
      segments := demo.segments.map (fun g => { g with unsafeA := 0 })
      calls := [{ demoCall with effective := .b, deadline := some 31 }], timing := { demo.timing with attendA := 20 } }
    let s := offering calm .d .logCall [2#8, 1#8]
    s.offers .d .logCall 7#8 [2#8, 1#8] [] ∧ s.passes .d .logCall [2#8, 1#8] ∧ s.callsSound ∧
    (after (.logCall .d) s).any (fun t =>
      (t.call? 0).any (fun c => c.effective == .a && c.level == 1 && c.merged == 2) &&
      (t.segment? 2).any (fun g => g.unsafeA == 1) &&
      (t.noticesD.queue.drop 1).map (fun e => e.kind) == [.callRaised, .callOverdue]) = true := by decide +kernel

theorem test_assign_hypotheses : meets .d .assignCall [0#8, 1#8, 15#8, 255#8] = true ∧
    meets .d .assignCall [0#8, 2#8, 0#8, 1#8] = true ∧ demo.callByRef? 1 = some demoCall ∧
    (demo.callByRef? 2).any (fun c => c.state == .assigned) = true ∧
    demo.now < demoCall.first + demo.timing.onSite demoCall.effective ∧
    (let late := offering { demo with now := 3605 } .d .assignCall [0#8, 1#8, 15#8, 255#8]
     late.offers .d .assignCall 7#8 [0#8, 1#8, 15#8, 255#8] [] ∧ late.passes .d .assignCall [0#8, 1#8, 15#8, 255#8] ∧
     late.callByRef? 1 = some demoCall ∧ late.callsSound ∧
     demoCall.first + late.timing.onSite demoCall.effective = 3605) := by decide +kernel

/-- A reference of 0 or of no call, a crew of 0 and a target outside the list. -/
theorem test_callChecks_hypotheses : meets .d .assignCall [0#8, 0#8, 0#8, 5#8] = true ∧
    meets .d .assignCall [0#8, 1#8, 0#8, 0#8] = true ∧ meets .d .assignCall [0#8, 9#8, 0#8, 5#8] = true ∧
    meets .d .callProgress [0#8, 1#8, 2#8] = true ∧ meets .d .callProgress [0#8, 9#8, 4#8] = true ∧
    demo.callByRef? 9 = none := by decide +kernel

theorem test_progress_hypotheses : meets .d .callProgress [0#8, 1#8, 5#8] = true ∧
    meets .d .callProgress [0#8, 1#8, 3#8] = true ∧ demo.callByRef? 1 = some demoCall ∧
    (demo.segment? demoCall.segment).any (fun g => g.unsafeA == 1) = true := by decide +kernel

theorem test_callDeadline_hypotheses : demo.call? 0 = some demoCall ∧ demoCall.deadline = some 30 ∧
    30 ≤ demo.now ∧ ({ demo with now := 29 } : State).now < 30 := by decide +kernel

/-- Segments 3 and 4 are in PURGE, with and without customers; segment 1 in RELIGHT with 20 of 420. -/
theorem test_crewReports_hypotheses : meets .d .purgeReport [3#8] = true ∧
    meets .d .purgeReport [4#8] = true ∧ meets .d .purgeReport [0#8] = true ∧
    meets .d .purgeReport [9#8] = true ∧ meets .d .relightReport [1#8, 1#8, 144#8] = true ∧
    meets .d .relightReport [1#8, 1#8, 145#8] = true ∧ meets .d .relightReport [1#8, 0#8, 1#8] = true ∧
    meets .d .relightReport [1#8, 0#8, 0#8] = true ∧ meets .d .relightReport [0#8, 0#8, 1#8] = true ∧
    (demo.segment? 3).any (fun g => g.supply == .purge && g.customers == 150) = true ∧
    (demo.segment? 4).any (fun g => g.supply == .purge && g.customers == 0) = true ∧
    (demo.segment? 1).any (fun g => g.supply == .relight && g.relit == 20) = true := by decide +kernel

/-- The purge of segment 3 raises OUTAGE_CHANGED; that of segment 4, without customers, raises nothing while its record
stays RESTORING (R153, log entry 40). -/
theorem test_crewNotices_hypotheses : demo.outagesSound ∧
    (demo.outages.any fun o => o.isOpen && (demo.segment? 4).any (fun g => g.outage == some o.ref)) = true ∧
    (after (.purgeReport .d) (offering demo .d .purgeReport [3#8])).any (fun t =>
      t.noticesD.queue.any (fun e => e.kind == .outageChanged && e.subject == 1)) = true ∧
    (after (.purgeReport .d) (offering demo .d .purgeReport [4#8])).any (fun t =>
      t.noticesD == demo.noticesD && t.outages == demo.outages &&
        (t.segment? 4).any (fun g => g.supply == .live)) = true := by
  refine ⟨?_, ?_, ?_, ?_⟩ <;> decide +kernel

theorem test_storeRequests_hypotheses : meets .s .storeRead [255#8, 128#8, 128#8] = true ∧
    meets .s .storeRead [255#8, 129#8, 128#8] = true ∧
    meets .s .storeWrite [15#8, 255#8, 1#8] = true ∧ meets .s .storeWrite [15#8, 255#8, 1#8, 2#8] = true := by
  decide +kernel

def busy (op : StoreOp) : State :=
  { demo with store := some op, portS := { demo.portS with inService := some ⟨0x60#8, 7#8, false⟩ } }

theorem test_storeCompletions_hypotheses :
    (busy (.read 0 1)).portS.inService = some ⟨0x60#8, 7#8, false⟩ ∧
    (busy (.write 4095 [1#8])).flashSound ∧
    (after (.storeWriteComplete false) (busy (.write 4095 [1#8]))).any (fun t =>
      flashRead t.flash 4095 == 1#8) = true := by decide +kernel

theorem test_reload_hypotheses : meets .s .reload [] = true ∧
    demo.orders.any (fun o => o.state == .proposed) = true ∧
    (let s := offering { demo with orders := [], calls := [], outages := [] } .s .reload []
     s.offers .s .reload 7#8 [] [] ∧ s.passes .s .reload []) ∧
    (busy .reload).store = some .reload ∧
    (busy .reload).portS.inService = some ⟨0x60#8, 7#8, false⟩ ∧
    (match validate (busy .reload).flash 30 with
      | .ok _ => false | .error bad => bad == (0, .format)) = true := by
  decide +kernel

/-- The proposal of order 1 waits for its sweep on Port D when the new model comes: CANCELLED, and WRONG_STATE (R61, R115). -/
def replacing : State :=
  { demo with
    store := some .reload, flash := flashWriteSpan [] 0 demoImage
    sweep := { demo.sweep with flight := .planned ⟨.d, .propose, 0, 1, [1]⟩ ⟨[], []⟩ }
    portS := { demo.portS with inService := some ⟨0x62#8, 7#8, false⟩ }
    portD := { demo.portD with inService := some ⟨0x20#8, 9#8, false⟩ } }

set_option maxRecDepth 20000 in
theorem test_replacement_hypotheses : decide replacing.ordersSound = true ∧
    (replacing.sweep.allRequests.all fun r => r.port == .d) = true ∧
    (match validate replacing.flash 30 with | .ok _ => true | .error _ => false) = true ∧
    (after (.reloadComplete false) replacing).any (fun t =>
      (t.order? 0).any (fun o => o.state == .cancelled) && t.terminalSlots == [3, 0] &&
      (t.port .d).replies == [replyFrame 0x20#8 9#8 .wrongState []] &&
      (t.port .s).replies.any (fun f => f.getD 3 0 == 0#8)) = true := by decide +kernel

set_option maxRecDepth 20000 in
/-- A commit of the EXPIRED order 4 waits on Port D when the new model comes: WRONG_STATE, and its order stands (log entry
19). -/
theorem test_voidCommit_hypotheses :
    let s : State := { replacing with
      sweep := { demo.sweep with flight := .planned ⟨.d, .commit false [1] [⟨1, 0, .waiting⟩], 3, 4, [1]⟩ ⟨[], []⟩ } }
    (s.sweep.allRequests.all fun r => r.port == .d) = true ∧ (s.orderByRef? 4).any Order.terminal = true ∧
    (after (.reloadComplete false) s).any (fun t => t.order? 3 == s.order? 3 &&
      (t.port .d).replies == [replyFrame 0x20#8 9#8 .wrongState []]) = true := by decide +kernel

/-- A report of unit 0 with both counts, its boundary counts of channels, and a watch that is due. -/
theorem test_unitReport_hypotheses :
    let pl := [0#8, 1#8, 2#8, 2#8, 45#8, 0#8, 45#8, 0#8]
    (offering demo .f .unitReport pl).offersReport .unitReport 7#8 pl [] ∧
    (offering demo .f .unitReport pl).passes .f .unitReport pl ∧ (demo.unit? 0).isSome = true ∧
    demo.source? 0 = some ⟨0, some 0, .live, none⟩ ∧ demo.channel? 0 0 = some demoChannel ∧
    lengthFits .unitReport [0#8, 0#8, 0#8, 0#8] = true ∧ demo.unit? 2 = none := by decide +kernel

/-- A reading of 0 Pa on the only channel of order 2's decay list: the order is ISOLATED with result VERIFIED (R104). -/
theorem test_decayReading_hypotheses :
    let pl := [1#8, 0#8, 0#8, 1#8, 12#8, 205#8]
    let s := offering demo .f .unitReport pl
    s.offersReport .unitReport 7#8 pl [] ∧ s.passes .f .unitReport pl ∧
    (after (.unitReport .f) s).any (fun t => (t.order? 1).any (fun o =>
      o.state == .isolated && o.verification == some .verified && o.decayDeadline.isNone)) = true := by
  decide +kernel

/-- A reading of 0 Pa makes segment 2 LOW: its call of class B is raised to A, and its deadline, which has come, expires
(R123 to R125). -/
theorem test_raisedCall_hypotheses :
    let pl := [0#8, 0#8, 0#8, 2#8, 44#8, 13#8, 12#8, 205#8]
    let calm : State := { demo with
      segments := demo.segments.map (fun g => { g with summary := .normal, unsafeA := 0 })
      channels := demo.channels.map (fun c => if c.index = 1 then { c with state := .normal, f := some 2000 } else c)
      calls := [{ demoCall with effective := .b, corroborated := false, first := 0, deadline := some 31 }]
      timing := { demo.timing with attendA := 30 } }
    let s := offering calm .f .unitReport pl
    s.offersReport .unitReport 7#8 pl [] ∧ s.passes .f .unitReport pl ∧ s.callsSound ∧
    (after (.unitReport .f) s).any (fun t => (t.segment? 2).any (fun g => g.summary == .low && g.unsafeA == 1) &&
      (t.call? 0).any (fun c => c.effective == .a && c.level == 1) &&
      t.noticesD.queue.any (fun e => e.kind == .callRaised && e.subject == 1)) = true := by
  decide +kernel

/-- A PURGE_REPORT ends the suppression of segment 3, whose channel is LOW with its mark set: PRESSURE_LOW of channel 4 is
raised, and the mark cleared (R42). -/
theorem test_endOfSuppression_hypotheses :
    let quiet : State := { demo with
      segments := demo.segments.map (fun g => { g with holders := [] })
      channels := demo.channels.map (fun c => if c.unit = 1 then
        { c with state := .low, f := some 1700, lowPending := true } else c) }
    let s := offering quiet .d .purgeReport [3#8]
    s.channelsSound ∧ (s.segments.map (fun g => g.id)).Pairwise (· < ·) ∧
    writesUnits (.purgeReport .d) = false ∧
    (s.segment? 3).any Segment.suppressed = true ∧
    (after (.purgeReport .d) s).any (fun t => (t.segment? 3).any (fun g => !g.suppressed) &&
      (t.channel? 1 0).any (fun c => !c.lowPending) &&
      t.noticesS.queue.any (fun e => e.kind == .pressureLow && e.subject == 4)) = true := by decide +kernel

theorem test_watch_hypotheses : demo.unit? 1 = some ⟨1, 30, 1, none, .silent, 30, false, none⟩ ∧
    30 ≤ demo.now ∧ demo.unit? 0 = some ⟨0, 30, 2, some 0, .fresh, 58, false, some 28⟩ ∧
    demo.now < 58 := by decide +kernel

end Sys2Proof.Tests
end

section
/-! PROOF of O24: the closure of the seeds is the set that chains of passing valves reach. -/

namespace Sys2Proof.SupplySweep

open Sys2Proof Sys2Proof.Machine

/-! ### What a valve joins -/

theorem joins_iff (v : Valve) (id : Nat) (set : List Nat) :
    v.joins id set = true ↔ ∃ b ∈ set,
      (v.endA = .segment id ∧ v.endB = .segment b) ∨ (v.endA = .segment b ∧ v.endB = .segment id) := by
  unfold Valve.joins
  split
  next a b ha hb =>
    rw [ha, hb]
    simp only [Bool.or_eq_true, Bool.and_eq_true, beq_iff_eq, List.contains_iff_mem, End.segment.injEq]
    constructor
    · rintro (⟨rfl, h⟩ | ⟨rfl, h⟩)
      · exact ⟨b, h, .inl ⟨rfl, rfl⟩⟩
      · exact ⟨a, h, .inr ⟨rfl, rfl⟩⟩
    · rintro ⟨c, h, ⟨rfl, rfl⟩ | ⟨rfl, rfl⟩⟩
      · exact .inl ⟨rfl, h⟩
      · exact .inr ⟨rfl, h⟩
  next hno =>
    simp only [Bool.false_eq_true, false_iff]
    rintro ⟨b, -, ⟨ha, hb⟩ | ⟨ha, hb⟩⟩ <;> exact hno _ _ ha hb

theorem seeds_iff (v : Valve) (id : Nat) (live : List Nat) :
    v.seeds id live = true ↔ ∃ q ∈ live,
      (v.endA = .source q ∧ v.endB = .segment id) ∨ (v.endA = .segment id ∧ v.endB = .source q) := by
  unfold Valve.seeds
  split
  next q a ha hb =>
    rw [ha, hb]
    simp only [Bool.and_eq_true, beq_iff_eq, List.contains_iff_mem, End.segment.injEq, End.source.injEq, reduceCtorEq,
      and_false, or_false]
    constructor
    · rintro ⟨rfl, hq⟩
      exact ⟨q, hq, rfl, rfl⟩
    · rintro ⟨_, hq, rfl, rfl⟩
      exact ⟨rfl, hq⟩
  next a q ha hb =>
    rw [ha, hb]
    simp only [Bool.and_eq_true, beq_iff_eq, List.contains_iff_mem, End.segment.injEq, End.source.injEq, reduceCtorEq,
      and_false, false_or]
    constructor
    · rintro ⟨rfl, hq⟩
      exact ⟨q, hq, rfl, rfl⟩
    · rintro ⟨_, hq, rfl, rfl⟩
      exact ⟨rfl, hq⟩
  next hsource hsegment =>
    simp only [Bool.false_eq_true, false_iff]
    rintro ⟨q, -, ⟨ha, hb⟩ | ⟨ha, hb⟩⟩
    · exact hsource _ _ ha hb
    · exact hsegment _ _ ha hb

/-! ### The rounds of the closure -/

section
variable (passing : List Valve) (ids : List Nat)

theorem mem_closeRound (set : List Nat) (id : Nat) :
    id ∈ closeRound passing ids set ↔
      id ∈ ids ∧ (id ∈ set ∨ ∃ v ∈ passing, v.joins id set = true) := by
  simp only [closeRound, List.mem_filter, Bool.or_eq_true, List.contains_iff_mem, List.any_eq_true]

theorem mem_seedSet (live : List Nat) (id : Nat) :
    id ∈ seedSet passing ids live ↔ id ∈ ids ∧ ∃ v ∈ passing, v.seeds id live = true := by
  simp only [seedSet, List.mem_filter, List.any_eq_true]

/-- The last of several rounds taken apart; the recursion takes the first. -/
theorem closeRounds_succ (n : Nat) (set : List Nat) :
    closeRounds passing ids (n + 1) set = closeRound passing ids (closeRounds passing ids n set) := by
  induction n generalizing set with
  | zero => rfl
  | succ n ih => exact ih (closeRound passing ids set)

/-- A round drops nothing of a set that is picked out of the segments. -/
theorem filter_sublist_closeRound (p : Nat → Bool) :
    (ids.filter p).Sublist (closeRound passing ids (ids.filter p)) := by
  have hpicked : (closeRound passing ids (ids.filter p)).filter p = ids.filter p := by
    rw [closeRound, List.filter_filter]
    refine List.filter_congr (fun id hid => ?_)
    cases hp : p id with
    | false => rw [Bool.false_and]
    | true =>
      have hin : (ids.filter p).contains id = true := List.contains_iff_mem.mpr (List.mem_filter.mpr ⟨hid, hp⟩)
      rw [hin, Bool.true_or, Bool.true_and]
  have hsublist := List.filter_sublist (p := p) (l := closeRound passing ids (ids.filter p))
  rwa [hpicked] at hsublist

variable (live : List Nat)

/-- After any number of rounds from the seeds the set is picked out of the segments. -/
theorem closeRounds_seedSet_eq_filter (n : Nat) :
    ∃ p, closeRounds passing ids n (seedSet passing ids live) = ids.filter p := by
  cases n with
  | zero => exact ⟨_, rfl⟩
  | succ n => exact ⟨_, closeRounds_succ passing ids n _⟩

theorem closeRounds_sublist_succ (n : Nat) :
    (closeRounds passing ids n (seedSet passing ids live)).Sublist
      (closeRounds passing ids (n + 1) (seedSet passing ids live)) := by
  obtain ⟨p, hp⟩ := closeRounds_seedSet_eq_filter passing ids live n
  rw [closeRounds_succ, hp]
  exact filter_sublist_closeRound passing ids p

/-- How many segments the closure of the seeds holds after a number of rounds. -/
def closureSize (n : Nat) : Nat := (closeRounds passing ids n (seedSet passing ids live)).length

theorem closureSize_le (n : Nat) : closureSize passing ids live n ≤ ids.length := by
  obtain ⟨p, hp⟩ := closeRounds_seedSet_eq_filter passing ids live n
  rw [closureSize, hp]
  exact List.length_filter_le p ids

theorem closureSize_le_succ (n : Nat) : closureSize passing ids live n ≤ closureSize passing ids live (n + 1) :=
  (closeRounds_sublist_succ passing ids live n).length_le

/-- A round that leaves the size leaves the set. -/
theorem closeRounds_succ_eq_of_closureSize_eq {n : Nat}
    (h : closureSize passing ids live n = closureSize passing ids live (n + 1)) :
    closeRounds passing ids (n + 1) (seedSet passing ids live) =
      closeRounds passing ids n (seedSet passing ids live) :=
  ((closeRounds_sublist_succ passing ids live n).eq_of_length h).symm

/-- Once a round adds nothing, nor does the next. -/
theorem closeRounds_stays {n : Nat}
    (h : closeRounds passing ids (n + 1) (seedSet passing ids live) =
      closeRounds passing ids n (seedSet passing ids live)) :
    closeRounds passing ids (n + 2) (seedSet passing ids live) =
      closeRounds passing ids (n + 1) (seedSet passing ids live) := by
  rw [closeRounds_succ passing ids (n + 1), h, ← closeRounds_succ, h]

/-- Until a round adds nothing, each adds a segment at least. -/
theorem closeRounds_settled_or_le_closureSize (n : Nat) :
    closeRounds passing ids (n + 1) (seedSet passing ids live) =
      closeRounds passing ids n (seedSet passing ids live) ∨ n ≤ closureSize passing ids live n := by
  induction n with
  | zero => exact .inr (Nat.zero_le _)
  | succ n ih =>
    rcases ih with hsettled | hsize
    · exact .inl (closeRounds_stays passing ids live hsettled)
    · rcases Nat.eq_or_lt_of_le (closureSize_le_succ passing ids live n) with heq | hlt
      · exact .inl (closeRounds_stays passing ids live (closeRounds_succ_eq_of_closureSize_eq passing ids live heq))
      · exact .inr (Nat.lt_of_le_of_lt hsize hlt)

/-- As many rounds as there are segments are enough: by then one has added nothing, or every segment is in the set. -/
theorem closeRound_suppliedBy :
    closeRound passing ids (suppliedBy passing ids live) = suppliedBy passing ids live := by
  rw [suppliedBy, ← closeRounds_succ]
  rcases closeRounds_settled_or_le_closureSize passing ids live ids.length with hsettled | hfull
  · exact hsettled
  · refine closeRounds_succ_eq_of_closureSize_eq passing ids live (Nat.le_antisymm ?_ ?_)
    · exact closureSize_le_succ passing ids live ids.length
    · exact Nat.le_trans (closureSize_le passing ids live _) hfull

theorem seedSet_subset_suppliedBy : seedSet passing ids live ⊆ suppliedBy passing ids live := by
  suffices h : ∀ n, seedSet passing ids live ⊆ closeRounds passing ids n (seedSet passing ids live) from
    h ids.length
  intro n
  induction n with
  | zero => exact List.Subset.refl _
  | succ n ih => exact List.Subset.trans ih (closeRounds_sublist_succ passing ids live n).subset

/-! ### Reachability -/

theorem reach_of_mem_seedSet {id : Nat} (h : id ∈ seedSet passing ids live) : Reach passing ids live id := by
  obtain ⟨hid, v, hv, hseeds⟩ := (mem_seedSet passing ids live id).mp h
  obtain ⟨q, hq, ends⟩ := (seeds_iff v id live).mp hseeds
  exact .seed hv hid hq ends

/-- A round keeps to what is reached. -/
theorem reach_of_mem_closeRound {set : List Nat} (hset : ∀ b ∈ set, Reach passing ids live b) {id : Nat}
    (h : id ∈ closeRound passing ids set) : Reach passing ids live id := by
  obtain ⟨hid, hin | ⟨v, hv, hjoins⟩⟩ := (mem_closeRound passing ids set id).mp h
  · exact hset id hin
  · obtain ⟨b, hb, ends⟩ := (joins_iff v id set).mp hjoins
    exact .join hv hid (hset b hb) ends

theorem reach_of_mem_suppliedBy {id : Nat} (h : id ∈ suppliedBy passing ids live) : Reach passing ids live id := by
  suffices hall : ∀ n, ∀ b ∈ closeRounds passing ids n (seedSet passing ids live), Reach passing ids live b from
    hall ids.length id h
  intro n
  induction n with
  | zero => exact fun b hb => reach_of_mem_seedSet passing ids live hb
  | succ n ih =>
    intro b hb
    rw [closeRounds_succ] at hb
    exact reach_of_mem_closeRound passing ids live ih hb

theorem mem_suppliedBy_of_reach {id : Nat} (h : Reach passing ids live id) : id ∈ suppliedBy passing ids live := by
  induction h with
  | seed hv hid hq ends =>
    exact seedSet_subset_suppliedBy passing ids live
      ((mem_seedSet passing ids live _).mpr ⟨hid, _, hv, (seeds_iff _ _ live).mpr ⟨_, hq, ends⟩⟩)
  | join hv hid _ ends ih =>
    rw [← closeRound_suppliedBy]
    exact (mem_closeRound passing ids _ _).mpr ⟨hid, .inr ⟨_, hv, (joins_iff _ _ _).mpr ⟨_, ih, ends⟩⟩⟩

theorem mem_suppliedBy_iff_reach (id : Nat) : id ∈ suppliedBy passing ids live ↔ Reach passing ids live id :=
  ⟨reach_of_mem_suppliedBy passing ids live, mem_suppliedBy_of_reach passing ids live⟩

end

/-! ### The sets and inputs of a picture -/

theorem mem_supplied_iff_reach (pic : Picture) (inp : SweepInputs) (id : Nat) :
    id ∈ pic.supplied inp ↔
      Reach (pic.valves.filter (fun v => inp.passing.contains v.id)) pic.segmentIds inp.live id :=
  mem_suppliedBy_iff_reach _ _ _ id

theorem mem_unsupplied (pic : Picture) (supplied : List Nat) (id : Nat) :
    id ∈ pic.unsupplied supplied ↔ id ∈ pic.segmentIds ∧ id ∉ supplied := by
  simp only [Picture.unsupplied, List.mem_filter, Bool.not_eq_true', List.contains_eq_mem, decide_eq_false_iff_not]

theorem mem_inputs_passing (pic : Picture) (plan : List Nat) (id : Nat) :
    id ∈ (pic.inputs plan).passing ↔ ∃ v ∈ pic.valves, v.id = id ∧ v.position ≠ .closed ∧ id ∉ plan := by
  simp only [Picture.inputs, List.mem_map, List.mem_filter, Valve.passes, Bool.and_eq_true, bne_iff_ne,
    Bool.not_eq_true', List.contains_eq_mem, decide_eq_false_iff_not]
  constructor
  · rintro ⟨v, ⟨hv, hpos, hplan⟩, rfl⟩
    exact ⟨v, hv, rfl, hpos, hplan⟩
  · rintro ⟨v, hv, rfl, hpos, hplan⟩
    exact ⟨v, ⟨hv, hpos, hplan⟩, rfl⟩

theorem mem_inputs_live (pic : Picture) (plan : List Nat) (id : Nat) :
    id ∈ (pic.inputs plan).live ↔ ∃ q ∈ pic.sources, q.id = id ∧ q.state = .live := by
  simp only [Picture.inputs, List.mem_map, List.mem_filter, beq_iff_eq]
  constructor
  · rintro ⟨q, ⟨hq, hlive⟩, rfl⟩
    exact ⟨q, hq, rfl, hlive⟩
  · rintro ⟨q, hq, rfl, hlive⟩
    exact ⟨q, ⟨hq, hlive⟩, rfl⟩

/-- Settles O24: the closure keeps to what is reached, and no round after the last adds to it. -/
theorem suppliedExactlyWhenReached : Obligations.SuppliedExactlyWhenReached := by
  intro pic inp id
  refine ⟨mem_supplied_iff_reach pic inp id, ?_, fun plan => mem_inputs_passing pic plan id,
    fun plan => mem_inputs_live pic plan id⟩
  rw [mem_unsupplied, mem_supplied_iff_reach]

end Sys2Proof.SupplySweep
end

section
/-! PROOF of O25's negation. One event splits the losses of two orders that carry one reference between two records, once
the record opened most recently takes the overflow between them. -/

namespace Sys2Proof.SupplySweep

open Sys2Proof Sys2Proof.Machine

/-- A segment of the refuting state, LIVE in no outage. -/
def wrapSegment (id : Nat) : Segment :=
  ⟨id, .lp, 10, false, .noChannel, false, .live, 0, none, [], 0⟩

/-- An order of the refuting state: EXECUTING, with its one step ISSUED, and the segment expected off. -/
def wrapOrder (slot ref segment : Nat) : Order :=
  { slot := slot, ref := ref, origin := .s, linkedCall := none, target := segment, region := [segment],
    automatic := false, steps := [⟨slot, 0, .issued⟩], expectedOff := [segment], newlyAffected := [segment],
    customerSum := 10, priorityCut := false, override := false, state := .executing, proposed := 0,
    verification := none, decayDeadline := none, decayList := [], figuresPending := false, commitInHand := false,
    cancelling := false, expiry := none, reopening := none }

/-- All 32 records are open, each for one segment: records 0 and 1 for ORDER 5, the rest UNPLANNED, and record 0 was
opened last. The orders in slots 0 and 2 both carry reference 5 (log entry 36); segments 32, 33 and 34, of orders 5, 3
and 5, are LIVE, and the sweep in flight supplies none. -/
def wrapped : State :=
  { State.reset with
    store := none
    segments :=
      (List.range 32).map (fun i => { wrapSegment i with supply := .off, outage := some (i + 1) }) ++
        [wrapSegment 32, wrapSegment 33, wrapSegment 34]
    sweep := { SweepEngine.noModel with flight := .actual ⟨[], []⟩ }
    orders := [wrapOrder 0 5 32, wrapOrder 1 3 33, wrapOrder 2 5 34]
    nextOrderRef := 6
    outages := (List.range 32).map (fun i =>
      ⟨i, i + 1, if i < 2 then .order 5 else .unplanned, [], 0, [i], 10, 0, .active⟩)
    nextOutageRef := 33
    openedOutages := (List.range 31).map (· + 1) ++ [0]
    customersOff := 320 }

/-- Each of its orders is in order, whatever its reference. -/
theorem wrapOrder_sound {slot : Nat} (hslot : slot < 16) (ref segment : Nat) : (wrapOrder slot ref segment).sound := by
  have hstep : ∀ t ∈ (wrapOrder slot ref segment).steps, t = ⟨slot, 0, .issued⟩ := fun _ ht => List.mem_singleton.mp ht
  refine ⟨hslot, List.cons_ne_nil _ _, Nat.le_add_left 1 15, List.cons_ne_nil _ _, Nat.le_add_left 1 31, ?ranks,
    List.pairwise_singleton _ _, ⟨?byRank, ?noneWaits⟩, ?expiry, fun h => absurd rfl h, fun _ => rfl⟩
  case ranks => exact fun t ht => hstep t ht ▸ Nat.zero_le 7
  case byRank =>
    intro t ht _ _ hwaits
    rw [hstep t ht] at hwaits
    cases hwaits
  case noneWaits =>
    intro _ t ht
    rw [hstep t ht]
    exact StepState.noConfusion
  case expiry => exact ⟨fun h => absurd rfl h, fun h => OrderState.noConfusion h.1⟩

theorem wrapped_ordersSound : wrapped.ordersSound := by
  refine ⟨by decide, by decide, ?_, by decide, by decide, by decide⟩
  intro o ho
  rcases ho with _ | ⟨_, _ | ⟨_, _ | ⟨_, ho⟩⟩⟩
  · exact wrapOrder_sound (by decide) _ _
  · exact wrapOrder_sound (by decide) _ _
  · exact wrapOrder_sound (by decide) _ _
  · cases ho

theorem wrapped_outagesSound : wrapped.outagesSound := by decide +kernel

/-- The segments that the sweep takes off. -/
theorem wrapped_lost :
    wrapped.segments.filter (fun g => g.supply = .live ∧ g.id ∉ wrapped.supplied ⟨[], []⟩) =
      [wrapSegment 32, wrapSegment 33, wrapSegment 34] := by decide +kernel

/-- Segments 32 and 34 are lost to one cause, though to two orders. -/
theorem wrapped_lossCause :
    wrapped.lossCause 32 = .order 5 ∧ wrapped.lossCause 34 = .order 5 := by decide +kernel

/-- The outage of a segment once the sweep has completed. -/
def wrappedOutageAfter (segment : Nat) : Option (Option Nat) :=
  match exec .actualSweepComplete wrapped with
  | .next t => (t.segment? segment).map (fun g => g.outage)
  | .fault _ | .refused _ => none

theorem wrappedOutageAfter_of_exec {t : State} (ht : exec .actualSweepComplete wrapped = .next t)
    (segment : Nat) : wrappedOutageAfter segment = (t.segment? segment).map (fun g => g.outage) := by
  simp only [wrappedOutageAfter, ht]

/-- Segment 32 joins record 0, the first of ORDER 5; segment 33 overflows into record 0, which becomes MIXED (R150); so
segment 34 joins record 1, then the only one of ORDER 5 (R149). -/
theorem wrapped_outages_differ : wrappedOutageAfter 32 = some (some 1) ∧ wrappedOutageAfter 34 = some (some 2) := by
  decide +kernel

/-- Refutes O25: two segments lost to one cause need not join one record. The clause on one cause, unlike the one on member
lists, does not ask that the orders' references differ, and neither `ordersSound` nor `outagesSound` keeps two orders from
one reference or two open records from one cause. -/
theorem not_actualSweepPublishesItsResult : ¬ Obligations.ActualSweepPublishesItsResult := by
  unfold Obligations.ActualSweepPublishesItsResult
  rintro ⟨-, -, hsweep⟩
  obtain ⟨t, ht, -, -, -, -, -, -, houtages⟩ := hsweep wrapped ⟨[], []⟩ rfl
  obtain ⟨-, -, -, hsame, -⟩ := houtages wrapped_ordersSound wrapped_outagesSound
  rw [wrapped_lost] at hsame
  obtain ⟨hcause32, hcause34⟩ := wrapped_lossCause
  have heq : (t.segment? 32).map (fun g => g.outage) = (t.segment? 34).map (fun g => g.outage) :=
    hsame (wrapSegment 32) (.head _) (wrapSegment 34) (.tail _ (.tail _ (.head _))) (hcause32.trans hcause34.symm)
  obtain ⟨h32, h34⟩ := wrapped_outages_differ
  rw [← wrappedOutageAfter_of_exec ht, ← wrappedOutageAfter_of_exec ht, h32, h34] at heq
  exact absurd heq (by decide)

end Sys2Proof.SupplySweep
end
